-- ==== Sys2Proof/Word.lean ====
section
/-! DEFINITION. The plain values of the hardware: the widths of the ports' fields (R7, R20, R22, R95,
R106), a frame and a buffer entry. Nothing here computes. -/

namespace Sys2Proof

/-- One payload byte (R20). -/
abbrev Byte := BitVec 8
/-- A frame identifier, bit 31 the extended-frame flag, bit 30 the RTR flag (R20, R21). -/
abbrev FrameId := BitVec 32
/-- A frame length, 4 bits; 9 to 15 are carried unchanged (R20). -/
abbrev Len := BitVec 4
/-- A timestamp in microseconds modulo `2^32` (R22, R236). -/
abbrev Timestamp := BitVec 32
/-- The opaque priority operand of `SEND` (R95). -/
abbrev Prio := BitVec 8
/-- A crystal code (R106). -/
abbrev Xtal := BitVec 2
/-- A command word as a port carries it: as wide as the widest format, S (R95). Bits above the width of
a shorter format are ignored (R91, D11). Log entry 23. -/
abbrev CmdWord := BitVec 118

/-- The eight payload bytes `F.data[0..7]` (R20): all of them are part of the value. -/
structure Payload where
  d0 : Byte
  d1 : Byte
  d2 : Byte
  d3 : Byte
  d4 : Byte
  d5 : Byte
  d6 : Byte
  d7 : Byte
  deriving DecidableEq, Repr, Inhabited

/-- A frame: identifier, length, payload (R20). -/
structure Frame where
  id   : FrameId
  len  : Len
  data : Payload
  deriving DecidableEq, Repr, Inhabited

/-- A buffer entry: a frame and the timestamp at which it was inserted (R22). -/
structure Entry where
  frame : Frame
  ts    : Timestamp
  deriving DecidableEq, Repr, Inhabited

/-- The all-zero frame of a response without a frame (R110, D13). -/
def Frame.zero : Frame := ⟨0, 0, ⟨0, 0, 0, 0, 0, 0, 0, 0⟩⟩

end Sys2Proof
end

