-- ==== Sys2Proof/Config.lean ====
section
/-! DEFINITION. The parameters of R7 that a model takes as arguments, and the constants the spec leaves
uninterpreted: free values, `makeHeader`, the tokens handed to the chip driver. -/

namespace Sys2Proof

/-- The open parameters of R7 (`92_eei_decisions.md`, "Open parameters in one place"). They are fixed for
a run; State holds one `Config`, so a statement about every state is one about every parameter value.
Log entries 1, 7. -/
structure Config where
  /-- `C` of the standalone ring buffer. -/
  rbC : Nat
  /-- `RXC`, the capacity of the receive buffer; at least 1 is required (R182, U12). -/
  rxC : Nat
  /-- `TXC`, the capacity of the unused transmit buffer; may be 0 (R45, D34). -/
  txC : Nat
  /-- `CNTW`, the width of the five wrapping counters (D6). -/
  cntw : Nat
  /-- `ATOMIC`: true for this hardware; false selects the preemptible refinement (R280, D2). -/
  atomic : Bool
  deriving DecidableEq, Repr

namespace Config

/-- The defaults of R7: `C = RXC = 4`, `TXC = 0`, `CNTW = 32`, `ATOMIC = true`. -/
def standard : Config := ⟨4, 4, 0, 32, true⟩

/-- The `n`-th free value: any number at all. It stands where the spec says "any value" (`ts` of `INSTIME`
on an empty buffer, D14) or "unspecified" (the registers a failed `CONSTRUCT` leaves, R50), cut to the
width of what it fills. Log entries 8, 9. -/
opaque freeValue : Nat → Nat

/-- The header encoder, an opaque black box of a frame and a priority (R242, R7). Nothing is assumed of
it, not even that bits 31 and 30 are clear. Log entry 12. -/
opaque makeHeader : Frame → Prio → Frame

/-- Opaque tokens handed to the chip driver; no rule depends on their values (R7, D29). Log entry 13. -/
abbrev Token := Nat
/-- `MODE` of `chip.start` (R240). -/
opaque mode : Token
/-- `BITRATE` of `chip.start` (R240). -/
opaque bitrate : Token
/-- `NORMAL` of `chip.set_operating_mode` (R240). -/
opaque normal : Token
/-- `profile(xtal)` of `chip.start` (R240). -/
opaque profile : Xtal → Token

end Config
end Sys2Proof
end

