-- ==== Sys2Proof/Machine/Widths.lean ====
section
/-! DEFINITION. The derived widths of R7 and wrapping arithmetic (R10, R150). -/

namespace Sys2Proof.Machine

/-- `wrapN(v) = v mod 2^N` (R10). -/
def wrap (n v : Nat) : Nat := v % 2 ^ n

/-- `ceil(log2 n)`, 0 for `n <= 1` (R7). -/
def clog2 (n : Nat) : Nat := if n ≤ 1 then 0 else Nat.log2 (n - 1) + 1

/-- `IDXW = max(1, ceil(log2 C))`, the width of `head` and `tail` (R7). -/
def idxw (c : Nat) : Nat := max 1 (clog2 c)

/-- `OCCW = max(1, ceil(log2 (C + 1)))`, the width of occupancy and high-water-mark (R7). -/
def occw (c : Nat) : Nat := max 1 (clog2 (c + 1))

end Sys2Proof.Machine
end

