-- ==== Sys2Proof/Syntax.lean ====
section
/-! DEFINITION. The operations of the two units, one constructor per row of `spec/opcode_table.json`
(R100), and the ports they arrive on (R90). -/

namespace Sys2Proof

/-- The two units of the block (R1): the standalone ring buffer and the adapter. -/
inductive UnitId
  | rb
  | adp
  deriving DecidableEq, Repr

/-- The four ports (R90). -/
inductive Port
  /-- RB port `P`: the producer. -/
  | rbP
  /-- RB port `C`: the consumer and owner. -/
  | rbC
  /-- ADP port `A`: the application. -/
  | adpA
  /-- ADP port `E`: the chip's signal line. -/
  | adpE
  deriving DecidableEq, Repr

/-- The producer port of a unit (R90, R234). -/
def UnitId.producerPort : UnitId → Port
  | .rb => .rbP
  | .adp => .adpE

/-- The consumer port of a unit (R90, R234). -/
def UnitId.consumerPort : UnitId → Port
  | .rb => .rbC
  | .adp => .adpA

/-- The operations (R100). -/
inductive Instr
  /-- `PUT`, opcode 0x01 (R132). -/
  | put (f : Frame)
  /-- `GET`, opcode 0x02 (R136). -/
  | get
  /-- `PEEK`, opcode 0x03 (R140). -/
  | peek
  /-- `INSTIME`, opcode 0x04 (R144). -/
  | instime
  /-- `CLEAR`, opcode 0x05 (R146). -/
  | clear
  /-- `CONSTRUCT`, opcode 0x0F (R130). -/
  | construct
  /-- `AVAIL`, opcode 0x10 (R160). -/
  | avail
  /-- `OCC`, opcode 0x11 (R161). -/
  | occ
  /-- `FREE`, opcode 0x12 (R162). -/
  | free
  /-- `FULL`, opcode 0x13 (R163). -/
  | full
  /-- `EMPTY`, opcode 0x14 (R164). -/
  | empty
  /-- `HWM`, opcode 0x15 (R165). -/
  | hwm
  /-- `PUTCNT`, opcode 0x16 (R166). -/
  | putcnt
  /-- `GETCNT`, opcode 0x17 (R167). -/
  | getcnt
  /-- `OVFCNT`, opcode 0x18 (R168). -/
  | ovfcnt
  /-- `INIT`, opcode 0x80 (R182). -/
  | init (poll : Bool) (xtal : Xtal)
  /-- `AAVAIL`, opcode 0x81 (R186). -/
  | aavail
  /-- `GETMSG`, opcode 0x82 (R190). -/
  | getmsg
  /-- `SEND`, opcode 0x83 (R196). -/
  | send (f : Frame) (rtr ext : Bool) (prio : Prio)
  /-- `RESET`, opcode 0x84 (R204). -/
  | reset
  /-- `RXCNT`, opcode 0x85 (R208). -/
  | rxcnt
  /-- `TXCNT`, opcode 0x86 (R209). -/
  | txcnt
  /-- `PSTEP`, the falling edge on port `E` (R96, R200, R228). -/
  | pstep
  deriving DecidableEq, Repr

end Sys2Proof
end

