-- ==== Sys2Proof/WellFormed.lean ====
section
/-! DEFINITION. What is well formed: instructions, parameters, frames of legal bus traffic. -/

namespace Sys2Proof

/-- Every term of `Instr` is well formed: each field has its encoding's width and no field value is illegal
(`xtal = 0b11` is defined to fail `INIT`, `len` 9 to 15 is carried unchanged) (R108, R106, R20). -/
def Instr.wf : Instr → Bool
  | .put _ | .get | .peek | .instime | .clear | .construct => true
  | .avail | .occ | .free | .full | .empty | .hwm | .putcnt | .getcnt | .ovfcnt => true
  | .init _ _ | .aavail | .getmsg | .send _ _ _ _ | .reset | .rxcnt | .txcnt | .pstep => true

/-- `RXC >= 1` is required of the adapter (R182, U12). -/
def Config.receiveCapacityPositive (g : Config) : Bool := decide (1 ≤ g.rxC)

/-- `OCCW <= VW` is required, `VW = CNTW`, for the two buffers an accessor can read (R110). -/
def Config.occupancyFitsValue (g : Config) : Bool :=
  decide (Machine.occw g.rbC ≤ g.cntw) && decide (Machine.occw g.rxC ≤ g.cntw)

/-- The parameters an elaborated block may have (R7, R110, R182). -/
def Config.wf (g : Config) : Bool := g.receiveCapacityPositive && g.occupancyFitsValue

/-- The premise U7 names for a claim about CAN-legal traffic: `len <= 8`. No rule of the block checks it. -/
def Frame.canLegal (f : Frame) : Bool := decide (f.len.toNat ≤ 8)

end Sys2Proof
end

