-- ==== Sys2Proof/Decode.lean ====
section
/-! DEFINITION. Command words: the packed frame (R104), the formats N, F, I, S, E (R92 to R96), the opcode
map (R100), the port discipline (R102). The decoder is total: a reserved opcode decodes to nothing. The
encoder stands after it and is written from the same tables. -/

namespace Sys2Proof

/-! ### Packed frames and entries -/

/-- `FRAME` of R104: `id` in `[31:0]`, `len` in `[35:32]`, `data[k]` in `[43+8k:36+8k]`. -/
def Frame.pack (f : Frame) : BitVec 100 :=
  f.data.d7 ++ f.data.d6 ++ f.data.d5 ++ f.data.d4 ++ f.data.d3 ++ f.data.d2 ++ f.data.d1 ++ f.data.d0 ++ f.len ++ f.id

/-- The frame a 100-bit word packs (R104). -/
def Frame.unpack (w : BitVec 100) : Frame where
  id := w.extractLsb' 0 32
  len := w.extractLsb' 32 4
  data :=
    { d0 := w.extractLsb' 36 8, d1 := w.extractLsb' 44 8, d2 := w.extractLsb' 52 8, d3 := w.extractLsb' 60 8
      d4 := w.extractLsb' 68 8, d5 := w.extractLsb' 76 8, d6 := w.extractLsb' 84 8, d7 := w.extractLsb' 92 8 }

/-- `ENTRY` of R104: the frame in `[99:0]`, the timestamp in `[131:100]`. -/
def Entry.pack (e : Entry) : BitVec 132 := e.ts ++ e.frame.pack

/-- The entry a 132-bit word packs (R104). -/
def Entry.unpack (w : BitVec 132) : Entry := ⟨Frame.unpack (w.extractLsb' 0 100), w.extractLsb' 100 32⟩

/-! ### The opcode map -/

/-- The opcode of an operation (R100). The event `PSTEP` has none (R96); 0 is reserved (R108). -/
def Instr.opcode : Instr → BitVec 8
  | .put _ => 0x01
  | .get => 0x02
  | .peek => 0x03
  | .instime => 0x04
  | .clear => 0x05
  | .construct => 0x0F
  | .avail => 0x10
  | .occ => 0x11
  | .free => 0x12
  | .full => 0x13
  | .empty => 0x14
  | .hwm => 0x15
  | .putcnt => 0x16
  | .getcnt => 0x17
  | .ovfcnt => 0x18
  | .init _ _ => 0x80
  | .aavail => 0x81
  | .getmsg => 0x82
  | .send _ _ _ _ => 0x83
  | .reset => 0x84
  | .rxcnt => 0x85
  | .txcnt => 0x86
  | .pstep => 0x00

/-- The width in bits of an operation's word: formats N 8, F 108, I 11, S 118, E 1 (R92 to R96). -/
def Instr.width : Instr → Nat
  | .put _ => 108
  | .init _ _ => 11
  | .send _ _ _ _ => 118
  | .pstep => 1
  | .get | .peek | .instime | .clear | .construct => 8
  | .avail | .occ | .free | .full | .empty | .hwm | .putcnt | .getcnt | .ovfcnt => 8
  | .aavail | .getmsg | .reset | .rxcnt | .txcnt => 8

/-- The port discipline of R102: which ports accept an operation. -/
def Port.accepts : Port → Instr → Bool
  | .rbP, i => match i with
    | .put _ => true
    | .get | .peek | .instime | .clear | .construct => false
    | .avail | .occ | .free | .full | .empty | .hwm | .putcnt | .getcnt | .ovfcnt => false
    | .init _ _ | .aavail | .getmsg | .send _ _ _ _ | .reset | .rxcnt | .txcnt | .pstep => false
  | .rbC, i => match i with
    | .get | .peek | .instime | .clear | .construct => true
    | .avail | .occ | .free | .full | .empty | .hwm | .putcnt | .getcnt | .ovfcnt => true
    | .put _ | .init _ _ | .aavail | .getmsg | .send _ _ _ _ | .reset | .rxcnt | .txcnt | .pstep => false
  | .adpA, i => match i with
    | .get | .peek | .instime | .clear => true
    | .avail | .occ | .free | .full | .empty | .hwm | .putcnt | .getcnt | .ovfcnt => true
    | .init _ _ | .aavail | .getmsg | .send _ _ _ _ | .reset | .rxcnt | .txcnt => true
    | .put _ | .construct | .pstep => false
  | .adpE, i => match i with
    | .pstep => true
    | .put _ | .get | .peek | .instime | .clear | .construct => false
    | .avail | .occ | .free | .full | .empty | .hwm | .putcnt | .getcnt | .ovfcnt => false
    | .init _ _ | .aavail | .getmsg | .send _ _ _ _ | .reset | .rxcnt | .txcnt => false

/-! ### Decoding -/

/-- The operation a command word stands for, from the opcode in bits `[7:0]` and the operand fields of its
format; `none` is a reserved opcode (R91 to R95, R100, R108). Bits above the format's width are ignored. -/
def decodeCmd (w : CmdWord) : Option Instr :=
  match w.extractLsb' 0 8 with
  | 0x01#8 => some (.put (Frame.unpack (w.extractLsb' 8 100)))
  | 0x02#8 => some .get
  | 0x03#8 => some .peek
  | 0x04#8 => some .instime
  | 0x05#8 => some .clear
  | 0x0F#8 => some .construct
  | 0x10#8 => some .avail
  | 0x11#8 => some .occ
  | 0x12#8 => some .free
  | 0x13#8 => some .full
  | 0x14#8 => some .empty
  | 0x15#8 => some .hwm
  | 0x16#8 => some .putcnt
  | 0x17#8 => some .getcnt
  | 0x18#8 => some .ovfcnt
  | 0x80#8 => some (.init (w.getLsbD 8) (w.extractLsb' 9 2))
  | 0x81#8 => some .aavail
  | 0x82#8 => some .getmsg
  | 0x83#8 => some (.send (Frame.unpack (w.extractLsb' 8 100)) (w.getLsbD 108) (w.getLsbD 109) (w.extractLsb' 110 8))
  | 0x84#8 => some .reset
  | 0x85#8 => some .rxcnt
  | 0x86#8 => some .txcnt
  | _ => none

/-- Format E: bit `[0] = 1` is one falling edge, 0 is none (R96). -/
def decodeEvent (w : CmdWord) : Option Instr := if w.getLsbD 0 then some .pstep else none

/-- What a port makes of the word presented on it. -/
inductive Decoded
  /-- A defined operation. Whether this port accepts it is checked before anything else of it (R102, R222). -/
  | instr (i : Instr)
  /-- A reserved opcode on a command port: the answer is `RESERVED_OP` (R108). -/
  | reserved
  /-- Port `E` without an edge: nothing has happened (R96). Log entry 16. -/
  | noEvent
  deriving DecidableEq, Repr

/-- Decode the word presented on a port: format E on port `E`, the command formats elsewhere (R90, R91, R96). -/
def decode (p : Port) (w : CmdWord) : Decoded :=
  match p with
  | .adpE => match decodeEvent w with
    | some i => .instr i
    | none => .noEvent
  | .rbP | .rbC | .adpA => match decodeCmd w with
    | some i => .instr i
    | none => .reserved

/-! ### Encoding -/

/-- The word of an operation on the port that takes it, zero above its format's width (R92 to R96). -/
def encode (i : Instr) : CmdWord :=
  match i with
  | .put f => (f.pack ++ 0x01#8).setWidth 118
  | .init poll xtal => (xtal ++ BitVec.ofBool poll ++ 0x80#8).setWidth 118
  | .send f rtr ext prio => prio ++ BitVec.ofBool ext ++ BitVec.ofBool rtr ++ f.pack ++ 0x83#8
  | .pstep => 1#118
  | .get | .peek | .instime | .clear | .construct => i.opcode.setWidth 118
  | .avail | .occ | .free | .full | .empty | .hwm | .putcnt | .getcnt | .ovfcnt => i.opcode.setWidth 118
  | .aavail | .getmsg | .reset | .rxcnt | .txcnt => i.opcode.setWidth 118

/-- The port an operation is encoded for: the unit's own port where two accept it (R100, R102). -/
def Instr.homePort : Instr → Port
  | .put _ => .rbP
  | .get | .peek | .instime | .clear | .construct => .rbC
  | .avail | .occ | .free | .full | .empty | .hwm | .putcnt | .getcnt | .ovfcnt => .rbC
  | .init _ _ | .aavail | .getmsg | .send _ _ _ _ | .reset | .rxcnt | .txcnt => .adpA
  | .pstep => .adpE

/-! ### The opcode table's rows -/

/-- The port and word that a row of `spec/opcode_table.json` of `nbits` bits presents. The only row without an
opcode is `PSTEP` (format E, 1 bit): at most 8 bits with the value 1 are its event on port `E`, since the one
command with opcode 0x01, `PUT`, has 108 bits. Log entry 15. -/
def tablePort (nbits w : Nat) : Port :=
  if nbits ≤ 8 ∧ w % 2 ^ nbits = 1 then .adpE
  else match decodeCmd (BitVec.ofNat 118 (w % 2 ^ nbits)) with
    | some i => i.homePort
    | none => .rbC

/-- The word of a table row: its low `nbits` bits, zero above. -/
def tableWord (nbits w : Nat) : CmdWord := BitVec.ofNat 118 (w % 2 ^ nbits)

/-- The instruction this decoder reads from a row of the opcode table. -/
def decodeTableWord (nbits w : Nat) : Option Instr :=
  match decode (tablePort nbits w) (tableWord nbits w) with
  | .instr i => some i
  | .reserved => none
  | .noEvent => none

end Sys2Proof
end

