-- ==== Sys2Proof/Machine/State.lean ====
section
/-! DEFINITION. The state of the block as plain data: three ring buffers (the standalone one, `rx`, `tx`), the
adapter's registers, the consumer operations in progress of the preemptible refinement, and the ports. -/

namespace Sys2Proof.Machine

/-! ### Responses -/

/-- The status of a response (R220). Codes 8 to 15 are reserved and never produced. -/
inductive Status
  | ok
  | empty
  | notReady
  | unusable
  | reservedOp
  | initFail
  | sendFail
  | wrongPort
  deriving DecidableEq, Repr

/-- The response formats (R110). -/
inductive RespFormat
  | rs
  | rl
  | rv
  | rf
  | rt
  deriving DecidableEq, Repr

/-- A response, by format (R110). `Response.word` gives its bits. -/
inductive Response
  /-- RS: a status alone. -/
  | rs (st : Status)
  /-- RL: a boolean answer. -/
  | rl (st : Status) (b : Bool)
  /-- RV: a value of `CNTW` bits. -/
  | rv (st : Status) (value : Nat)
  /-- RF: a frame. -/
  | rf (st : Status) (valid : Bool) (frame : Frame)
  /-- RT: a timestamp. -/
  | rt (st : Status) (valid : Bool) (ts : Timestamp)
  deriving DecidableEq, Repr

/-! ### The ring buffer -/

/-- The slot array (R23): the slots that hold a value, by slot index, in one canonical form (indices strictly
rising, see `Memory.wf`). A slot that is not listed holds no value (R50, D17). Log entry 6. -/
abbrev Memory := List (Nat × Entry)

/-- One ring buffer instance (R38). Its capacity `C` is a parameter and stands in `Config`. -/
structure RB where
  /-- `slot[0..C-1]` (R23). -/
  mem : Memory
  /-- The next write slot index, `IDXW` bits (R25). -/
  head : Nat
  /-- The next read slot index, `IDXW` bits (R26). -/
  tail : Nat
  /-- The stored flag that tells full from empty (R27). -/
  full : Bool
  /-- Cumulative puts, `CNTW` bits (R33). -/
  puts : Nat
  /-- Cumulative gets, `CNTW` bits (R34). -/
  gets : Nat
  /-- Cumulative overflow evictions, `CNTW` bits (R35). -/
  ovf : Nat
  /-- The high-water-mark, `OCCW` bits (R36). -/
  hwm : Nat
  /-- 1 after a `CONSTRUCT` that succeeded (R29). -/
  usable : Bool
  deriving DecidableEq, Repr

/-- A buffer at power-on: `usable = 0`, no slot holds a value; the rest is unspecified (R50) and zero here.
Log entry 5. -/
def RB.powerOn : RB := ⟨[], 0, 0, false, 0, 0, 0, 0, false⟩

/-- What an accessor asks of a buffer (R160 to R168). -/
inductive Query
  | avail
  | occ
  | free
  | full
  | empty
  | hwm
  | puts
  | gets
  | ovf
  deriving DecidableEq, Repr

/-! ### The preemptible refinement -/

/-- The three ring buffers of the block (R1, R45). -/
inductive RingId
  | rb
  | rx
  | tx
  deriving DecidableEq, Repr

/-- One write of a construction (R130). Log entry 18. -/
inductive BuildAct
  /-- `slot[i] <- no value`, for every slot: storage is allocated. -/
  | dropSlots
  /-- `head <- 0`. -/
  | zeroHead
  /-- `tail <- 0`. -/
  | zeroTail
  /-- `full <- 0`. -/
  | clearFull
  /-- `puts <- 0`. -/
  | zeroPuts
  /-- `gets <- 0`. -/
  | zeroGets
  /-- `ovf <- 0`. -/
  | zeroOvf
  /-- `hwm <- 0`. -/
  | zeroHwm
  /-- `usable <- 1`, or 0 for a zero capacity. -/
  | setUsable (b : Bool)
  /-- `usable <- 0` after a failed allocation, which leaves the registers unspecified: free values from the `n`-th on. -/
  | fail (n : Nat)
  deriving DecidableEq, Repr

/-- The adapter state (R40). -/
inductive AdpState
  | uninit
  | ready
  deriving DecidableEq, Repr

/-- A call made to the chip driver (R240). -/
inductive ChipCall
  | start (mode bitrate profile : Config.Token)
  | setOperatingMode (mode : Config.Token)
  | receive
  | send (f : Frame)
  | recreate
  deriving DecidableEq, Repr

/-- A micro-step of a consumer operation: those of R281, then those of the operations R281 does not list, in the order of their
pseudocode (R280, R130, R182, R196, R204, R208, R209). Log entry 18. -/
inductive MicroAct
  /-- `g0`, `p0`, `i0`: if `Occ == 0` answer `onEmpty` and end. -/
  | checkNotEmpty (onEmpty : Response)
  /-- `g1`: latch the frame at `tail`. -/
  | readFrame
  /-- `g2`, `c2`: `full <- 0`. -/
  | clearFull
  /-- `g3`: `tail <- inc(tail)`. -/
  | advanceTail
  /-- `g4`: `gets <- gets + 1`. -/
  | countGet
  /-- `m0`: `rx_count <- rx_count + 1`. -/
  | countReceived
  /-- `g5`: answer the latched frame. -/
  | answerLatched
  /-- `p1`: answer the frame at `tail`. -/
  | answerPeek
  /-- `i1`: answer the timestamp at `tail`. -/
  | answerTime
  /-- `c0`: `head <- 0`. -/
  | zeroHead
  /-- `c1`: `tail <- 0`. -/
  | zeroTail
  /-- `a0`: one evaluation of `Occ` or one read of a register. -/
  | sample (q : Query)
  /-- `a1`, `c3`: answer. -/
  | answer (r : Response)
  /-- A write of a construction (R130). -/
  | build (k : RingId) (a : BuildAct)
  /-- `cfg_poll <- poll` (R182). -/
  | storePoll (poll : Bool)
  /-- `cfg_xtal <- xtal` (R182). -/
  | storeXtal (xtal : Xtal)
  /-- `st <- UNINIT` or `READY` (R182, R204). -/
  | writeSt (st : AdpState)
  /-- `irq_reg <- 0` or 1 (R182, R204). -/
  | writeIrq (b : Bool)
  /-- A call to the chip driver, whose answer is one of the operation's environment inputs (R240). -/
  | callChip (c : ChipCall)
  /-- `tx_count <- tx_count + 1` (R196). -/
  | countSent
  /-- One read of `rx_count` (R208). -/
  | readReceived
  /-- One read of `tx_count` (R209). -/
  | readSent
  deriving DecidableEq, Repr

/-- A consumer operation in progress (R280): the frame it has latched and the micro-steps still to run. -/
structure Micro where
  latch : Frame
  todo  : List MicroAct
  deriving DecidableEq, Repr

/-- No consumer operation in progress. -/
def Micro.idle : Micro := ⟨Frame.zero, []⟩

/-! ### The ports -/

/-- The environment inputs of one step (R8). `start`, `setMode`, `send` are the chip driver's `ok`;
`receive` is none or the frame it delivers (R240). -/
structure Env where
  now       : Timestamp
  allocOk   : Bool
  allocOkRx : Bool
  allocOkTx : Bool
  start     : Bool
  setMode   : Bool
  send      : Bool
  receive   : Option Frame
  deriving DecidableEq, Repr

/-- A command word or an event presented on a port, with the environment inputs of its step (R90, R8). -/
structure Request where
  port : Port
  word : CmdWord
  env  : Env
  deriving DecidableEq, Repr

/-- What the environment has lined up for the block (R246). Log entries 2, 17, 21. -/
inductive Input
  /-- One request on one port. -/
  | request (r : Request)
  /-- A producer request and a consumer command of one unit presented together, and the order the environment
  chooses to have them served in (R72, R230). -/
  | coincide (u : UnitId) (producerWord : CmdWord) (producerEnv : Env) (consumerWord : CmdWord) (consumerEnv : Env)
      (producerFirst : Bool)
  /-- With `ATOMIC = false`: let the consumer operation in progress on a unit take one micro-step (R280). -/
  | advance (u : UnitId)
  deriving DecidableEq, Repr

/-- What the block takes up next of the inputs lined up for it, with the inputs that follow. -/
inductive NextInput
  /-- Nothing is presented. -/
  | nothing
  /-- A request. -/
  | request (r : Request) (rest : List Input)
  /-- A micro-step of a unit's operation in progress. -/
  | advance (u : UnitId) (rest : List Input)
  deriving DecidableEq, Repr

/-! ### The block -/

/-- Environment inputs with every answer good and no frame pending; the value of the latch at reset.
Log entry 22. -/
def Env.good : Env := ⟨0, true, true, true, true, true, true, none⟩

/-- The whole state. -/
structure State where
  /-- The parameters (R7); no step changes them. -/
  cfg : Config
  /-- The standalone ring buffer (R1). -/
  rb : RB
  /-- The adapter state (R40). -/
  st : AdpState
  /-- 1 = polling mode (R41). -/
  cfgPoll : Bool
  /-- The crystal code (R41, R106). -/
  cfgXtal : Xtal
  /-- 1 when the production-step callback is registered (R42). -/
  irqReg : Bool
  /-- The received-message counter, `CNTW` bits (R43). -/
  rxCount : Nat
  /-- The sent-message counter, `CNTW` bits (R44). -/
  txCount : Nat
  /-- The receive buffer (R45). -/
  rx : RB
  /-- The transmit buffer, which no command reaches (R45). -/
  tx : RB
  /-- The consumer operation in progress on the standalone buffer (R280). -/
  rbMicro : Micro
  /-- The consumer operation in progress on the adapter (R280). -/
  adpMicro : Micro
  /-- How many free values have been used: the model's own (log entry 8). -/
  free : Nat
  /-- The port of the request being served (R90). -/
  port : Port
  /-- The environment inputs sampled in this step (R8). -/
  env : Env
  /-- The inputs lined up, next first (log entry 2). -/
  inputs : List Input
  /-- The response of the last step, if it gave one (R110). Log entry 14. -/
  resp : Option Response
  /-- The calls the last step made to the chip driver, in order (R240). Log entry 13. -/
  calls : List ChipCall
  deriving DecidableEq, Repr

/-- Why the machine stops with a fault. Both are raised only in states the atomic machine never reaches. -/
inductive Fault
  /-- A read of `slot[tail]` that would reach a valid response finds no value there (R50: "would be a fault"; no
  such read exists by R32). Raised by `GET`, `PEEK`, `INSTIME`, `GETMSG`. Safe: the model stops. -/
  | slotNoValue
  /-- A slot access at an index outside `0..C-1`, where no slot exists (R62, R65). Raised by `PUT`, `GET`, `PEEK`,
  `INSTIME`, `GETMSG`, `AAVAIL`, `PSTEP`. Safe: the model stops. -/
  | noSuchSlot
  deriving DecidableEq, Repr

/-- Why a step has no transition. -/
inductive Refusal
  /-- An instruction without a meaning yet. Raised by refused arms of `exec` only (there are none). Safe. -/
  | notModelled (mnemonic : String)
  /-- `INIT` or `RESET` of an adapter whose receive buffer has `RXC = 0`: an elaboration error for which the model has
  no transition (U12). Raised by `INIT` and `RESET`. Safe. -/
  | zeroReceiveCapacity
  deriving DecidableEq, Repr

/-- What an operation answers. -/
abbrev Out := Host.Outcome State Fault Refusal

/-- Power-on (R50, R260(a)): the adapter `UNINIT`, nothing registered, both message counters 0, every buffer unusable.
Log entries 1, 5, 8, 22. -/
def State.reset : State where
  cfg := Config.standard
  rb := RB.powerOn
  st := .uninit
  cfgPoll := false
  cfgXtal := 0
  irqReg := false
  rxCount := 0
  txCount := 0
  rx := RB.powerOn
  tx := RB.powerOn
  rbMicro := Micro.idle
  adpMicro := Micro.idle
  free := 0
  port := .rbC
  env := Env.good
  inputs := []
  resp := none
  calls := []

end Sys2Proof.Machine
end

