-- ==== Sys2Proof/Machine/Flags.lean ====
section
/-! DEFINITION. The quantities derived from `head`, `tail`, `full` (R30, R31) and the computations of the stored flag and
the high-water-mark (R27, R36). -/

namespace Sys2Proof.Machine

/-- `inc(i) = (i + 1) mod C`, computed without a divider (R131). -/
def inc (c i : Nat) : Nat := if i + 1 = c then 0 else i + 1

/-- The occupancy function (R30). -/
def RB.occ (c : Nat) (b : RB) : Nat :=
  if b.full then c
  else if b.tail ≤ b.head then b.head - b.tail
  else c + b.head - b.tail

/-- `available = (Occ > 0)` (R31). -/
def RB.available (c : Nat) (b : RB) : Bool := decide (0 < b.occ c)

/-- `empty = (Occ == 0)` (R31). -/
def RB.isEmpty (c : Nat) (b : RB) : Bool := decide (b.occ c = 0)

/-- `free = C - Occ` (R31, R162). -/
def RB.freeSlots (c : Nat) (b : RB) : Nat := c - b.occ c

/-- `full <- (head == tail)` (R27, R132). -/
def RB.recomputeFull (b : RB) : RB := { b with full := decide (b.head = b.tail) }

/-- `if Occ > hwm then hwm <- Occ` (R36, R132). -/
def RB.raiseHwm (c : Nat) (b : RB) : RB := if b.hwm < b.occ c then { b with hwm := b.occ c } else b

end Sys2Proof.Machine
end

