-- ==== Sys2Proof/Machine/Operands.lean ====
section
/-! DEFINITION. The operand and response forms: the flag bits of an identifier (R21), the headers `SEND` submits (R196),
ages (R237), and the response words (R110, R220). -/

namespace Sys2Proof.Machine

/-- `EXT(F) = F.id[31]` (R21). -/
def ext (f : Frame) : Bool := f.id.getLsbD 31

/-- `RTR(F) = F.id[30]` (R21). -/
def rtr (f : Frame) : Bool := f.id.getLsbD 30

/-- `id[31] <- ext`, `id[30] <- rtr`: assignment, the other bits stay (R196, D27). -/
def setFlagBits (ext rtr : Bool) (id : FrameId) : FrameId :=
  BitVec.ofBool ext ++ (BitVec.ofBool rtr ++ id.extractLsb' 0 30)

/-- The frame `SEND` submits to the chip: the header encoder's result with the two flag bits assigned (R196). -/
def submitted (f : Frame) (rtr ext : Bool) (prio : Prio) : Frame :=
  let g := Config.makeHeader f prio
  { g with id := setFlagBits ext rtr g.id }

/-- The age of an entry stamped `ts` when the timestamp source reads `n`: `wrap32(n - ts)` (R237). The block
computes none itself; callers do. -/
def age (n ts : Timestamp) : Timestamp := n - ts

/-- The status codes (R220). -/
def Status.code : Status → BitVec 4
  | .ok => 0
  | .empty => 1
  | .notReady => 2
  | .unusable => 3
  | .reservedOp => 4
  | .initFail => 5
  | .sendFail => 6
  | .wrongPort => 7

/-- A response with a status other than `OK`: zero payload, `valid = 0` (R110). -/
def RespFormat.failed : RespFormat → Status → Response
  | .rs, st => .rs st
  | .rl, st => .rl st false
  | .rv, st => .rv st 0
  | .rf, st => .rf st false Frame.zero
  | .rt, st => .rt st false 0

/-- The format of a response (R110). -/
def Response.format : Response → RespFormat
  | .rs _ => .rs
  | .rl _ _ => .rl
  | .rv _ _ => .rv
  | .rf _ _ _ => .rf
  | .rt _ _ _ => .rt

/-- The status of a response: its bits `[3:0]` (R110). -/
def Response.status : Response → Status
  | .rs st => st
  | .rl st _ => st
  | .rv st _ => st
  | .rf st _ _ => st
  | .rt st _ _ => st

/-- The width of a response word, `VW = CNTW` (R110). -/
def RespFormat.width (vw : Nat) : RespFormat → Nat
  | .rs => 4
  | .rl => 5
  | .rv => 4 + vw
  | .rf => 105
  | .rt => 37

/-- The bits of a response word: the status in `[3:0]`, the payload above it, a value cut to its field (R110). -/
def Response.word (vw : Nat) : Response → Nat
  | .rs st => st.code.toNat
  | .rl st b => st.code.toNat + 2 ^ 4 * b.toNat
  | .rv st v => st.code.toNat + 2 ^ 4 * wrap vw v
  | .rf st valid f => st.code.toNat + 2 ^ 4 * valid.toNat + 2 ^ 5 * f.pack.toNat
  | .rt st valid ts => st.code.toNat + 2 ^ 4 * valid.toNat + 2 ^ 5 * ts.toNat

/-- The answer format of an operation; the event `PSTEP` yields no response (R100, R110). -/
def responseFormat : Instr → Option RespFormat
  | .put _ | .clear | .construct | .init _ _ | .send _ _ _ _ | .reset => some .rs
  | .avail | .full | .empty | .aavail => some .rl
  | .occ | .free | .hwm | .putcnt | .getcnt | .ovfcnt | .rxcnt | .txcnt => some .rv
  | .get | .peek | .getmsg => some .rf
  | .instime => some .rt
  | .pstep => none

end Sys2Proof.Machine
end

