-- ==== Sys2Proof/Machine/Ops.lean ====
section
/-! DEFINITION. The shared operations: slot memory (R60), the ring buffer's operations as functions of one buffer (R130 to
R146, R160 to R168), the answers (R110, R224), the adapter's gate (R180), the body of initialisation (R182), the
production step (R200) and taking the interrupt (R228). The hardware never traps: a failure is an answer with a status
(R224), so `State.answer` is what stands here for taking an exception, and the one interrupt, `State.takeEdge`, saves
nothing and returns by its step's end (R231, R232). -/

namespace Sys2Proof.Machine

/-! ### Slot memory -/

/-- `MemRead(a, 1)` (R60): the entry in slot `a`, if the slot holds a value. -/
def Memory.read (m : Memory) (a : Nat) : Option Entry :=
  match m with
  | [] => none
  | (k, e) :: rest => if k = a then some e else Memory.read rest a

/-- `MemWrite(a, 1, e)` (R60): slot `a` holds `e`; the indices stay strictly rising. -/
def Memory.write (m : Memory) (a : Nat) (e : Entry) : Memory :=
  match m with
  | [] => [(a, e)]
  | (k, d) :: rest =>
    if a < k then (a, e) :: (k, d) :: rest
    else if a = k then (a, e) :: rest
    else (k, d) :: Memory.write rest a e

/-- Every listed index is above `a`. -/
def Memory.above (a : Nat) : Memory → Bool
  | [] => true
  | (k, _) :: rest => decide (a < k) && Memory.above a rest

/-- The canonical form: indices strictly rising. An unlisted slot reads as no value and every entry is a value, so no
listed entry equals what an unlisted slot reads as. -/
def Memory.wf : Memory → Bool
  | [] => true
  | (k, _) :: rest => Memory.above k rest && Memory.wf rest

/-- Every listed index is a slot, `0..C-1` (R65). -/
def Memory.within (c : Nat) : Memory → Bool
  | [] => true
  | (k, _) :: rest => decide (k < c) && Memory.within c rest

/-- The entry at `tail`: a fault where no slot exists or where the slot holds no value (R50, R62). -/
def RB.tailEntry (c : Nat) (b : RB) : Except Fault Entry :=
  if b.tail < c then
    match Memory.read b.mem b.tail with
    | some e => .ok e
    | none => .error .slotNoValue
  else .error .noSuchSlot

/-! ### The ring buffer's operations -/

/-- `slot[head] <- (F, t)` (R132). -/
def RB.store (f : Frame) (t : Timestamp) (b : RB) : RB := { b with mem := Memory.write b.mem b.head ⟨f, t⟩ }

/-- `if full then ovf <- ovf + 1, tail <- inc(tail)` (R132). -/
def RB.evictIfFull (c w : Nat) (b : RB) : RB :=
  if b.full then { b with ovf := wrap w (b.ovf + 1), tail := inc c b.tail } else b

/-- `head <- inc(head)` (R132). -/
def RB.advanceHead (c : Nat) (b : RB) : RB := { b with head := inc c b.head }

/-- `puts <- puts + 1` (R132). -/
def RB.countPut (w : Nat) (b : RB) : RB := { b with puts := wrap w (b.puts + 1) }

/-- The whole of `PUT`'s body on a usable buffer, in the order of R132. -/
def RB.putBody (c w : Nat) (f : Frame) (t : Timestamp) (b : RB) : RB :=
  ((((b.store f t).evictIfFull c w).advanceHead c).recomputeFull.raiseHwm c).countPut w

/-- `PUT` behind its gate (R132, R148). -/
def RB.put (c w : Nat) (f : Frame) (t : Timestamp) (b : RB) : Except Fault (RB × Response) :=
  if b.usable then
    if b.head < c then .ok (b.putBody c w f t, .rs .ok) else .error .noSuchSlot
  else .ok (b, .rs .unusable)

/-- `full <- 0` (R136, R146). -/
def RB.clearFull (b : RB) : RB := { b with full := false }

/-- `tail <- inc(tail)` (R136). -/
def RB.advanceTail (c : Nat) (b : RB) : RB := { b with tail := inc c b.tail }

/-- `gets <- gets + 1` (R136). -/
def RB.countGet (w : Nat) (b : RB) : RB := { b with gets := wrap w (b.gets + 1) }

/-- `GET` on a usable buffer (R136). -/
def RB.get (c w : Nat) (b : RB) : Except Fault (RB × Response) :=
  if b.occ c = 0 then .ok (b, RespFormat.failed .rf .empty)
  else match b.tailEntry c with
    | .error e => .error e
    | .ok e => .ok ((b.clearFull.advanceTail c).countGet w, .rf .ok true e.frame)

/-- `PEEK` on a usable buffer (R140): no state changes. -/
def RB.peek (c : Nat) (b : RB) : Except Fault (RB × Response) :=
  if b.occ c = 0 then .ok (b, RespFormat.failed .rf .empty)
  else match b.tailEntry c with
    | .error e => .error e
    | .ok e => .ok (b, .rf .ok true e.frame)

/-- `INSTIME` on a usable buffer (R144); `anyTs` is the free value of the answer on an empty buffer. -/
def RB.instime (c : Nat) (anyTs : Timestamp) (b : RB) : Except Fault (RB × Response) :=
  if b.occ c = 0 then .ok (b, .rt .empty false anyTs)
  else match b.tailEntry c with
    | .error e => .error e
    | .ok e => .ok (b, .rt .ok true e.ts)

/-- `head <- 0` (R146). -/
def RB.zeroHead (b : RB) : RB := { b with head := 0 }

/-- `tail <- 0` (R146). -/
def RB.zeroTail (b : RB) : RB := { b with tail := 0 }

/-- `CLEAR` on a usable buffer (R146): the counters and the slots stay. -/
def RB.clear (b : RB) : RB := b.zeroHead.zeroTail.clearFull

/-- A freshly constructed buffer (R130, R50). -/
def RB.fresh : RB := ⟨[], 0, 0, false, 0, 0, 0, 0, true⟩

/-- How many free values an unusable buffer takes. -/
def unusableFreeValues : Nat := 7

/-- A buffer whose construction left it unusable: no slot holds a value and the registers are unspecified, each a free value
of its own width (R50, R130). Log entry 9. -/
def RB.unusableFrom (c w n : Nat) : RB where
  mem := []
  head := wrap (idxw c) (Config.freeValue n)
  tail := wrap (idxw c) (Config.freeValue (n + 1))
  full := decide (wrap 1 (Config.freeValue (n + 2)) = 1)
  puts := wrap w (Config.freeValue (n + 3))
  gets := wrap w (Config.freeValue (n + 4))
  ovf := wrap w (Config.freeValue (n + 5))
  hwm := wrap (occw c) (Config.freeValue (n + 6))
  usable := false

/-- The status `CONSTRUCT` answers (R130): the allocation of zero entries succeeds whatever `alloc_ok` says (R130(b), R182, D7,
D34, U12). Log entry 10. -/
def constructStatus (c : Nat) (allocOk : Bool) : Status := if c = 0 then .ok else if allocOk then .ok else .unusable

/-- The buffer `CONSTRUCT` leaves (R130, R50): with `alloc_ok` every register 0 and `usable` unless the capacity is zero, else
unusable; `n` numbers the free values it may use. -/
def constructed (c w : Nat) (allocOk : Bool) (n : Nat) : RB :=
  if allocOk then { RB.fresh with usable := decide (1 ≤ c) } else RB.unusableFrom c w n

/-- `puts <- 0` (R130). -/
def RB.zeroPuts (b : RB) : RB := { b with puts := 0 }

/-- `gets <- 0` (R130). -/
def RB.zeroGets (b : RB) : RB := { b with gets := 0 }

/-- `ovf <- 0` (R130). -/
def RB.zeroOvf (b : RB) : RB := { b with ovf := 0 }

/-- `hwm <- 0` (R130). -/
def RB.zeroHwm (b : RB) : RB := { b with hwm := 0 }

/-- `slot[i] <- no value` for every slot (R130). -/
def RB.dropSlots (b : RB) : RB := { b with mem := [] }

/-- `usable <- 1` or 0 (R130). -/
def RB.setUsable (u : Bool) (b : RB) : RB := { b with usable := u }

/-- What one write of a construction makes of a buffer (R130, R50). -/
def BuildAct.apply (c w : Nat) (a : BuildAct) (b : RB) : RB :=
  match a with
  | .dropSlots => b.dropSlots
  | .zeroHead => b.zeroHead
  | .zeroTail => b.zeroTail
  | .clearFull => b.clearFull
  | .zeroPuts => b.zeroPuts
  | .zeroGets => b.zeroGets
  | .zeroOvf => b.zeroOvf
  | .zeroHwm => b.zeroHwm
  | .setUsable u => b.setUsable u
  | .fail n => { RB.unusableFrom c w n with mem := b.mem }

/-- The writes of a construction in the order of R130. Log entry 18. -/
def buildActs (c : Nat) (allocOk : Bool) (n : Nat) : List BuildAct :=
  if allocOk then
    [.dropSlots, .zeroHead, .zeroTail, .clearFull, .zeroPuts, .zeroGets, .zeroOvf, .zeroHwm, .setUsable (decide (1 ≤ c))]
  else [.dropSlots, .fail n]

/-- The answer of an accessor on a usable buffer (R160 to R168). -/
def Query.answer (q : Query) (c : Nat) (b : RB) : Response :=
  match q with
  | .avail => .rl .ok (b.available c)
  | .occ => .rv .ok (b.occ c)
  | .free => .rv .ok (b.freeSlots c)
  | .full => .rl .ok b.full
  | .empty => .rl .ok (b.isEmpty c)
  | .hwm => .rv .ok b.hwm
  | .puts => .rv .ok b.puts
  | .gets => .rv .ok b.gets
  | .ovf => .rv .ok b.ovf

/-- The answer format of an accessor (R160 to R168). -/
def Query.format : Query → RespFormat
  | .avail | .full | .empty => .rl
  | .occ | .free | .hwm | .puts | .gets | .ovf => .rv

/-! ### The two units in the state -/

/-- The capacity of the buffer a unit's consumer port reads (R7). -/
def State.cap (u : UnitId) (s : State) : Nat :=
  match u with
  | .rb => s.cfg.rbC
  | .adp => s.cfg.rxC

/-- The buffer a unit's consumer port reads: the standalone one, or `rx` (R102, R210). -/
def State.buf (u : UnitId) (s : State) : RB :=
  match u with
  | .rb => s.rb
  | .adp => s.rx

/-- Write the buffer of a unit. -/
def State.setBuf (u : UnitId) (b : RB) (s : State) : State :=
  match u with
  | .rb => { s with rb := b }
  | .adp => { s with rx := b }

/-- The capacity of a ring buffer (R7). -/
def State.ringCap (k : RingId) (s : State) : Nat :=
  match k with
  | .rb => s.cfg.rbC
  | .rx => s.cfg.rxC
  | .tx => s.cfg.txC

/-- A ring buffer of the block (R1, R45). -/
def State.ring (k : RingId) (s : State) : RB :=
  match k with
  | .rb => s.rb
  | .rx => s.rx
  | .tx => s.tx

/-- Write a ring buffer of the block. -/
def State.setRing (k : RingId) (b : RB) (s : State) : State :=
  match k with
  | .rb => { s with rb := b }
  | .rx => { s with rx := b }
  | .tx => { s with tx := b }

/-- The consumer operation in progress on a unit (R280). -/
def State.micro (u : UnitId) (s : State) : Micro :=
  match u with
  | .rb => s.rbMicro
  | .adp => s.adpMicro

/-- Write the consumer operation in progress on a unit. -/
def State.setMicro (u : UnitId) (m : Micro) (s : State) : State :=
  match u with
  | .rb => { s with rbMicro := m }
  | .adp => { s with adpMicro := m }

/-! ### Answers and gates -/

/-- The state with a response on the port (R110). -/
def State.withResp (r : Response) (s : State) : State := { s with resp := some r }

/-- End the operation with a response. A failure is this too: nothing else changes, nothing is latched (R224). -/
def State.answer (r : Response) (s : State) : Out := .next (s.withResp r)

/-- A defined operation on a port that does not accept it (R102). -/
def State.wrongPort (s : State) : Out := s.answer (.rs .wrongPort)

/-- The adapter's gate on port `A` (R180): format `fmt` is the operation's own. -/
def State.whenReady (fmt : RespFormat) (k : State → Out) (s : State) : Out :=
  match s.st with
  | .ready => k s
  | .uninit => s.answer (fmt.failed .notReady)

/-- An operation that only ADP port `A` accepts, behind the adapter's gate (R102, R180, R222). -/
def State.onApplicationPort (fmt : RespFormat) (k : State → Out) (s : State) : Out :=
  match s.port with
  | .adpA => s.whenReady fmt k
  | .rbP | .rbC | .adpE => s.wrongPort

/-- Put the outcome of a buffer operation back into the state and answer. -/
def State.finishBuf (u : UnitId) (r : Except Fault (RB × Response)) (s : State) : Out :=
  match r with
  | .error e => .fault e
  | .ok (b, a) => (s.setBuf u b).answer a

/-- Use up `n` free values (log entry 8). -/
def State.useFree (n : Nat) (s : State) : State := { s with free := s.free + n }

/-! ### The chip driver -/

/-- Make a call to the chip driver (R240). -/
def State.call (c : ChipCall) (s : State) : State := { s with calls := s.calls ++ [c] }

/-! ### Initialisation -/

/-- `st <- UNINIT`, `irq_reg <- 0` (R182, R204). -/
def State.unregister (s : State) : State := { s with st := .uninit, irqReg := false }

/-- Construct `rx` and `tx` (R182, R45). -/
def State.constructBuffers (s : State) : State :=
  { s with
    rx := constructed s.cfg.rxC s.cfg.cntw s.env.allocOkRx s.free
    tx := constructed s.cfg.txC s.cfg.cntw s.env.allocOkTx (s.free + unusableFreeValues)
    free := s.free + 2 * unusableFreeValues }

/-- `if cfg_poll == 0 then irq_reg <- 1`, `st <- READY` (R182). -/
def State.register (s : State) : State := { s with irqReg := !s.cfgPoll, st := .ready }

/-- The chip's part of `INITBODY` and the registration: `start`, then `set_operating_mode`, then `READY` (R182). -/
def State.startChip (s : State) : Out :=
  let s1 := s.call (.start Config.mode Config.bitrate (Config.profile s.cfgXtal))
  if s.env.start then
    let s2 := s1.call (.setOperatingMode Config.normal)
    if s.env.setMode then s2.register.answer (.rs .ok)
    else s2.answer (.rs .initFail)
  else s1.answer (.rs .initFail)

/-- Both constructions of an initialisation answer `OK` (R182). -/
def State.buffersAllocated (s : State) : Bool :=
  constructStatus s.cfg.rxC s.env.allocOkRx = .ok && constructStatus s.cfg.txC s.env.allocOkTx = .ok

/-- `INITBODY`, shared by `INIT` and `RESET` (R182). -/
def State.initBody (s : State) : Out :=
  let s1 := s.unregister.constructBuffers
  if s.buffersAllocated then
    if s.cfgXtal = 3#2 then s1.answer (.rs .initFail)
    else s1.startChip
  else s1.answer (.rs .initFail)

/-! ### The production step and the interrupt -/

/-- `PSTEP` (R200): one `chip.receive`; a frame goes into `rx` as it was delivered, with the `now` of this step; nothing is
reported. -/
def State.productionStep (s : State) : Out :=
  let s1 := s.call .receive
  match s.env.receive with
  | none => .next s1
  | some f =>
    match s1.rx.put s1.cfg.rxC s1.cfg.cntw f s1.env.now with
    | .error e => .fault e
    | .ok (b, _) => .next { s1 with rx := b }

/-- An edge on port `E` (R228): one production step if `READY` and registered, else the edge is discarded. -/
def State.takeEdge (s : State) : Out :=
  match s.st with
  | .ready => if s.irqReg then s.productionStep else .next s
  | .uninit => .next s

end Sys2Proof.Machine
end

