-- ==== Sys2Proof/Machine/Micro.lean ====
section
/-! DEFINITION. Consumer operations on a buffer: whole with `ATOMIC = true` (R63), in micro-steps with `ATOMIC = false`
(R280, R281). Log entries 17, 18. -/

namespace Sys2Proof.Machine

/-- Answer and end the operation in progress. -/
def State.endMicro (u : UnitId) (r : Response) (s : State) : Out := (s.setMicro u Micro.idle).answer r

/-- Go on with the micro-steps `rest`. -/
def State.goOn (u : UnitId) (rest : List MicroAct) (s : State) : State := s.setMicro u ⟨(s.micro u).latch, rest⟩

/-- Change the unit's buffer. -/
def State.updBuf (u : UnitId) (f : RB → RB) (s : State) : State := s.setBuf u (f (s.buf u))

/-- What a micro-step writes; one that reads or answers writes nothing (R281). -/
def State.effect (u : UnitId) (a : MicroAct) (s : State) : State :=
  match a with
  | .clearFull => s.updBuf u RB.clearFull
  | .advanceTail => s.updBuf u (RB.advanceTail (s.cap u))
  | .countGet => s.updBuf u (RB.countGet s.cfg.cntw)
  | .zeroHead => s.updBuf u RB.zeroHead
  | .zeroTail => s.updBuf u RB.zeroTail
  | .countReceived => { s with rxCount := wrap s.cfg.cntw (s.rxCount + 1) }
  | .countSent => { s with txCount := wrap s.cfg.cntw (s.txCount + 1) }
  | .build k b => s.setRing k (b.apply (s.ringCap k) s.cfg.cntw (s.ring k))
  | .storePoll poll => { s with cfgPoll := poll }
  | .storeXtal xtal => { s with cfgXtal := xtal }
  | .writeSt st => { s with st := st }
  | .writeIrq b => { s with irqReg := b }
  | .callChip c => s.call c
  | .checkNotEmpty _ | .readFrame | .answerLatched | .answerPeek | .answerTime | .sample _ | .answer _ => s
  | .readReceived | .readSent => s

/-- One micro-step `a` of the operation in progress on `u`, `rest` being what follows it (R281). -/
def State.runAct (u : UnitId) (a : MicroAct) (rest : List MicroAct) (s : State) : Out :=
  match a with
  | .checkNotEmpty onEmpty => if (s.buf u).occ (s.cap u) = 0 then s.endMicro u onEmpty else .next (s.goOn u rest)
  | .readFrame => match (s.buf u).tailEntry (s.cap u) with
    | .error e => .fault e
    | .ok e => .next (s.setMicro u ⟨e.frame, rest⟩)
  | .answerLatched => s.endMicro u (.rf .ok true (s.micro u).latch)
  | .answerPeek => match (s.buf u).tailEntry (s.cap u) with
    | .error e => .fault e
    | .ok e => s.endMicro u (.rf .ok true e.frame)
  | .answerTime => match (s.buf u).tailEntry (s.cap u) with
    | .error e => .fault e
    | .ok e => s.endMicro u (.rt .ok true e.ts)
  | .sample q => .next (s.goOn u (.answer (q.answer (s.cap u) (s.buf u)) :: rest))
  | .readReceived => .next (s.goOn u (.answer (.rv .ok s.rxCount) :: rest))
  | .readSent => .next (s.goOn u (.answer (.rv .ok s.txCount) :: rest))
  | .answer r => s.endMicro u r
  | .clearFull | .advanceTail | .countGet | .zeroHead | .zeroTail | .countReceived | .countSent | .build _ _
  | .storePoll _ | .storeXtal _ | .writeSt _ | .writeIrq _ | .callChip _ => .next ((s.effect u a).goOn u rest)

/-- The next micro-step of the operation in progress on `u`; nothing happens if there is none. -/
def State.microStep (u : UnitId) (s : State) : Out :=
  match (s.micro u).todo with
  | [] => .next s
  | a :: rest => s.runAct u a rest

/-- Begin a consumer operation made of the micro-steps `acts`: its first micro-step runs at once (R281). -/
def State.startMicro (u : UnitId) (acts : List MicroAct) (s : State) : Out :=
  (s.setMicro u ⟨Frame.zero, acts⟩).microStep u

/-- Micro-steps `g0` to `g5` (R281). -/
def getActs : List MicroAct :=
  [.checkNotEmpty (RespFormat.failed .rf .empty), .readFrame, .clearFull, .advanceTail, .countGet, .answerLatched]

/-- Micro-steps `p0`, `p1` (R281). -/
def peekActs : List MicroAct := [.checkNotEmpty (RespFormat.failed .rf .empty), .answerPeek]

/-- Micro-steps `i0`, `i1` (R281). -/
def instimeActs (anyTs : Timestamp) : List MicroAct := [.checkNotEmpty (.rt .empty false anyTs), .answerTime]

/-- Micro-steps `c0` to `c3` (R281). -/
def clearActs : List MicroAct := [.zeroHead, .zeroTail, .clearFull, .answer (.rs .ok)]

/-- Micro-step `a0`; it lines up `a1` (R281). -/
def accessorActs (q : Query) : List MicroAct := [.sample q]

/-- The micro-steps of `GET` on `rx`, then `m0`, then the response (R281). -/
def getmsgActs : List MicroAct :=
  [.checkNotEmpty (RespFormat.failed .rf .empty), .readFrame, .clearFull, .advanceTail, .countGet, .countReceived,
    .answerLatched]

/-- The writes of a construction as micro-steps (R130). -/
def constructActs (k : RingId) (c : Nat) (allocOk : Bool) (n : Nat) : List MicroAct :=
  (buildActs c allocOk n).map (MicroAct.build k)

/-- The chip's part of `INITBODY` and the registration, with the environment's answers of the operation (R182). -/
def chipActs (e : Env) (poll : Bool) (xtal : Xtal) : List MicroAct :=
  .callChip (.start Config.mode Config.bitrate (Config.profile xtal)) ::
    if e.start then
      .callChip (.setOperatingMode Config.normal) ::
        if e.setMode then (if poll then [] else [.writeIrq true]) ++ [.writeSt .ready, .answer (.rs .ok)]
        else [.answer (.rs .initFail)]
    else [.answer (.rs .initFail)]

/-- `INITBODY` as micro-steps (R182): the checks read the operation's own values and belong to the write that follows. -/
def State.initActs (poll : Bool) (xtal : Xtal) (s : State) : List MicroAct :=
  [.writeSt .uninit, .writeIrq false] ++ constructActs .rx s.cfg.rxC s.env.allocOkRx s.free ++
    constructActs .tx s.cfg.txC s.env.allocOkTx (s.free + unusableFreeValues) ++
    if s.buffersAllocated && decide (xtal ≠ 3#2) then chipActs s.env poll xtal else [.answer (.rs .initFail)]

/-- `SEND` as micro-steps (R196): the header is encoded from the operands alone and belongs to the call. -/
def sendActs (f : Frame) (chipOk : Bool) : List MicroAct :=
  .callChip (.send f) :: if chipOk then [.countSent, .answer (.rs .ok)] else [.answer (.rs .sendFail)]

/-- A consumer operation on unit `u`: `whole` if operations are atomic (R63), else its micro-steps `acts` (R280). -/
def State.wholeOrSplit (u : UnitId) (whole : State → Out) (acts : List MicroAct) (s : State) : Out :=
  if s.cfg.atomic then whole s else s.startMicro u acts

/-- A consumer operation on the buffer of unit `u` behind the buffer's gate (R148, R169). -/
def State.onBuffer (u : UnitId) (fmt : RespFormat) (whole : RB → Except Fault (RB × Response)) (acts : List MicroAct)
    (s : State) : Out :=
  if (s.buf u).usable then s.wholeOrSplit u (fun t => t.finishBuf u (whole (t.buf u))) acts
  else s.answer (fmt.failed .unusable)

/-- A consumer operation that RB port `C` accepts and ADP port `A` forwards to `rx` (R102, R210, R222). `whole` takes the
capacity and the counter width. -/
def State.onConsumerPort (fmt : RespFormat) (whole : Nat → Nat → RB → Except Fault (RB × Response))
    (acts : List MicroAct) (s : State) : Out :=
  match s.port with
  | .rbC => s.onBuffer .rb fmt (whole s.cfg.rbC s.cfg.cntw) acts
  | .adpA => s.whenReady fmt (State.onBuffer .adp fmt (whole s.cfg.rxC s.cfg.cntw) acts)
  | .rbP | .adpE => s.wrongPort

/-- An accessor: nothing but an answer (R169). -/
def State.accessor (q : Query) (s : State) : Out :=
  s.onConsumerPort q.format (fun c _ b => .ok (b, q.answer c b)) (accessorActs q)

end Sys2Proof.Machine
end

