-- ==== Sys2Proof/Machine/Accessors.lean ====
section
/-! DEFINITION. The nine accessors of the ring buffer (41_rb_accessors.md). -/

namespace Sys2Proof.Machine

/-- `AVAIL` (R160). -/
def execAvail (s : State) : Out := s.accessor .avail
/-- `OCC` (R161). -/
def execOcc (s : State) : Out := s.accessor .occ
/-- `FREE` (R162). -/
def execFree (s : State) : Out := s.accessor .free
/-- `FULL` (R163). -/
def execFull (s : State) : Out := s.accessor .full
/-- `EMPTY` (R164). -/
def execEmpty (s : State) : Out := s.accessor .empty
/-- `HWM` (R165). -/
def execHwm (s : State) : Out := s.accessor .hwm
/-- `PUTCNT` (R166). -/
def execPutcnt (s : State) : Out := s.accessor .puts
/-- `GETCNT` (R167). -/
def execGetcnt (s : State) : Out := s.accessor .gets
/-- `OVFCNT` (R168). -/
def execOvfcnt (s : State) : Out := s.accessor .ovf

end Sys2Proof.Machine
end

