-- ==== Sys2Proof/Machine/Adapter.lean ====
section
/-! DEFINITION. The operations of the adapter: INIT, AAVAIL, GETMSG, SEND, RESET, RXCNT, TXCNT and the event PSTEP
(42_adapter_ops.md, 60_exceptions.md R228). -/

namespace Sys2Proof.Machine

/-- An initialisation (R182, R204): `whole` if operations are atomic, else the micro-steps `before` and those of `INITBODY`.
`RXC = 0` is an elaboration error (U12). Log entry 11. -/
def State.initialise (poll : Bool) (xtal : Xtal) (whole : State → Out) (before : List MicroAct) (s : State) : Out :=
  if s.cfg.rxC = 0 then .refused .zeroReceiveCapacity
  else if s.cfg.atomic then whole s
  else (s.useFree (2 * unusableFreeValues)).startMicro .adp (before ++ s.initActs poll xtal)

/-- `INIT` (R182): accepted in either state; the operands are stored before any check. -/
def execInit (poll : Bool) (xtal : Xtal) (s : State) : Out :=
  match s.port with
  | .adpA =>
    s.initialise poll xtal (fun t => { t with cfgPoll := poll, cfgXtal := xtal }.initBody) [.storePoll poll, .storeXtal xtal]
  | .rbP | .rbC | .adpE => s.wrongPort

/-- `AAVAIL`'s answer: whether `rx` holds an entry (R186). -/
def State.answerAvailable (s : State) : Out := s.answer (.rl .ok (s.rx.available s.cfg.rxC))

/-- `AAVAIL` behind the gate (R186): in polling mode one production step inside this step, which nothing preempts (R280); in
interrupt mode one evaluation of `rx.Occ` and the answer (R281). -/
def State.adapterAvailable (s : State) : Out :=
  if s.cfgPoll then
    match s.productionStep with
    | .next t => t.answerAvailable
    | .fault e => .fault e
    | .refused r => .refused r
  else s.wholeOrSplit .adp State.answerAvailable (accessorActs .avail)

/-- `AAVAIL` (R186). -/
def execAavail (s : State) : Out := s.onApplicationPort .rl State.adapterAvailable

/-- `rx_count <- rx_count + 1` where a frame is returned (R190). -/
def State.countIfReceived (r : Response) (s : State) : State :=
  match r with
  | .rf .ok true _ => { s with rxCount := wrap s.cfg.cntw (s.rxCount + 1) }
  | _ => s

/-- The buffer's `GET`, counted when it returns a frame (R190). -/
def State.getAndCount (s : State) : Out :=
  match s.rx.get s.cfg.rxC s.cfg.cntw with
  | .error e => .fault e
  | .ok (b, r) => ({ s with rx := b }.countIfReceived r).answer r

/-- `GETMSG` behind the gates (R190). Log entry 19. -/
def State.takeMessage (s : State) : Out :=
  if s.rx.usable then s.wholeOrSplit .adp State.getAndCount getmsgActs
  else s.answer (RespFormat.failed .rf .unusable)

/-- `GETMSG` (R190). -/
def execGetmsg (s : State) : Out := s.onApplicationPort .rf State.takeMessage

/-- `SEND` behind the gate (R196): one `chip.send` of the encoded frame; counted when the chip accepts it. -/
def State.sendFrame (f : Frame) (rtr ext : Bool) (prio : Prio) (s : State) : Out :=
  let s1 := s.call (.send (submitted f rtr ext prio))
  if s.env.send then { s1 with txCount := wrap s1.cfg.cntw (s1.txCount + 1) }.answer (.rs .ok)
  else s1.answer (.rs .sendFail)

/-- `SEND` (R196). -/
def execSend (f : Frame) (rtr ext : Bool) (prio : Prio) (s : State) : Out :=
  s.onApplicationPort .rs
    (State.wholeOrSplit .adp (State.sendFrame f rtr ext prio) (sendActs (submitted f rtr ext prio) s.env.send))

/-- `RESET` (R204): the chip handle is recreated, then initialisation runs again with the stored operands. -/
def execReset (s : State) : Out :=
  s.onApplicationPort .rs
    (State.initialise s.cfgPoll s.cfgXtal (fun t => (t.unregister.call .recreate).initBody)
      [.writeSt .uninit, .writeIrq false, .callChip .recreate])

/-- `RXCNT` (R208). -/
def execRxcnt (s : State) : Out :=
  s.onApplicationPort .rv (State.wholeOrSplit .adp (fun t => t.answer (.rv .ok t.rxCount)) [.readReceived])

/-- `TXCNT` (R209). -/
def execTxcnt (s : State) : Out :=
  s.onApplicationPort .rv (State.wholeOrSplit .adp (fun t => t.answer (.rv .ok t.txCount)) [.readSent])

/-- `PSTEP` as an event: the falling edge on port `E` (R200, R228). It gives no response. -/
def execPstep (s : State) : Out := s.takeEdge

end Sys2Proof.Machine
end

