-- ==== Sys2Proof/Machine/RingBuffer.lean ====
section
/-! DEFINITION. The ring buffer data operations: PUT, GET, PEEK, INSTIME, CLEAR, CONSTRUCT (40_rb_data_ops.md). -/

namespace Sys2Proof.Machine

/-- `PUT` (R132), accepted by RB port `P` only (R102); it samples `now`. -/
def execPut (f : Frame) (s : State) : Out :=
  match s.port with
  | .rbP => s.finishBuf .rb (s.rb.put s.cfg.rbC s.cfg.cntw f s.env.now)
  | .rbC | .adpA | .adpE => s.wrongPort

/-- `GET` (R136, R210). -/
def execGet (s : State) : Out := s.onConsumerPort .rf RB.get getActs

/-- `PEEK` (R140, R210). -/
def execPeek (s : State) : Out := s.onConsumerPort .rf (fun c _ => RB.peek c) peekActs

/-- `INSTIME` (R144, R210): on an empty buffer the timestamp answered is a free value (D14). Log entry 8. -/
def execInstime (s : State) : Out :=
  let anyTs := BitVec.ofNat 32 (Config.freeValue s.free)
  (s.useFree 1).onConsumerPort .rt (fun c _ => RB.instime c anyTs) (instimeActs anyTs)

/-- `CLEAR` (R146, R210). -/
def execClear (s : State) : Out := s.onConsumerPort .rs (fun _ _ b => .ok (b.clear, .rs .ok)) clearActs

/-- `CONSTRUCT` (R130), accepted by RB port `C` only (R102). -/
def execConstruct (s : State) : Out :=
  match s.port with
  | .rbC =>
    let status := Response.rs (constructStatus s.cfg.rbC s.env.allocOk)
    (s.useFree unusableFreeValues).wholeOrSplit .rb
      (fun t => { t with rb := constructed s.cfg.rbC s.cfg.cntw s.env.allocOk s.free }.answer status)
      (constructActs .rb s.cfg.rbC s.env.allocOk s.free ++ [.answer status])
  | .rbP | .adpA | .adpE => s.wrongPort

end Sys2Proof.Machine
end

