-- ==== Sys2Proof/Machine/Dispatch.lean ====
section
/-! DEFINITION. The dispatch of every operation to its meaning. -/

namespace Sys2Proof.Machine

def exec (i : Instr) (s : State) : Host.Outcome State Fault Refusal :=
  match i with
  | .put f => Sys2Proof.Machine.execPut f s
  | .get => Sys2Proof.Machine.execGet s
  | .peek => Sys2Proof.Machine.execPeek s
  | .instime => Sys2Proof.Machine.execInstime s
  | .clear => Sys2Proof.Machine.execClear s
  | .construct => Sys2Proof.Machine.execConstruct s
  | .avail => Sys2Proof.Machine.execAvail s
  | .occ => Sys2Proof.Machine.execOcc s
  | .free => Sys2Proof.Machine.execFree s
  | .full => Sys2Proof.Machine.execFull s
  | .empty => Sys2Proof.Machine.execEmpty s
  | .hwm => Sys2Proof.Machine.execHwm s
  | .putcnt => Sys2Proof.Machine.execPutcnt s
  | .getcnt => Sys2Proof.Machine.execGetcnt s
  | .ovfcnt => Sys2Proof.Machine.execOvfcnt s
  | .init poll xtal => Sys2Proof.Machine.execInit poll xtal s
  | .aavail => Sys2Proof.Machine.execAavail s
  | .getmsg => Sys2Proof.Machine.execGetmsg s
  | .send f rtr ext prio => Sys2Proof.Machine.execSend f rtr ext prio s
  | .reset => Sys2Proof.Machine.execReset s
  | .rxcnt => Sys2Proof.Machine.execRxcnt s
  | .txcnt => Sys2Proof.Machine.execTxcnt s
  | .pstep => Sys2Proof.Machine.execPstep s

end Sys2Proof.Machine
end

