-- ==== Sys2Proof/Machine/Fetch.lean ====
section
/-! DEFINITION. What the block does with the inputs lined up for it: the order coinciding requests are served in (R72), a
command that waits for the operation in progress (R280), sampling a request's environment inputs (R8). -/

namespace Sys2Proof.Machine

/-- The unit whose consumer port a port is, if it is one (R90, R234). -/
def consumerUnit : Port → Option UnitId
  | .rbC => some .rb
  | .adpA => some .adp
  | .rbP | .adpE => none

/-- The producer's request of a coinciding pair (R72). -/
def producerRequest (u : UnitId) (w : CmdWord) (e : Env) : Request := ⟨u.producerPort, w, e⟩

/-- The consumer's command of a coinciding pair (R72). -/
def consumerRequest (u : UnitId) (w : CmdWord) (e : Env) : Request := ⟨u.consumerPort, w, e⟩

/-- What is taken up next. Of a coinciding pair it is the request the environment's order puts first; the other one is
presented right after it (R72). Log entry 21. -/
def nextInput : List Input → NextInput
  | [] => .nothing
  | .request r :: rest => .request r rest
  | .advance u :: rest => .advance u rest
  | .coincide u pw pe cw ce true :: rest =>
    .request (producerRequest u pw pe) (.request (consumerRequest u cw ce) :: rest)
  | .coincide u pw pe cw ce false :: rest =>
    .request (consumerRequest u cw ce) (.request (producerRequest u pw pe) :: rest)

/-- A consumer operation is in progress on the unit (only with `ATOMIC = false`, R280). -/
def State.busy (u : UnitId) (s : State) : Bool := !(s.micro u).todo.isEmpty

/-- The unit whose operation in progress a port's request must wait for (R280: a consumer port takes one command at a
time; a producer request waits for none). -/
def State.waitsFor (p : Port) (s : State) : Option UnitId :=
  match consumerUnit p with
  | none => none
  | some u => if s.busy u then some u else none

/-- Take the outputs of the last step off the ports. -/
def State.clearOutputs (s : State) : State := { s with resp := none, calls := [] }

/-- The inputs that remain. -/
def State.withInputs (l : List Input) (s : State) : State := { s with inputs := l }

/-- Sample a request: its port, its environment inputs, and the inputs that remain (R8, R11). -/
def State.sample (r : Request) (rest : List Input) (s : State) : State :=
  { s with port := r.port, env := r.env, inputs := rest }

/-- Nothing is presented: the operation in progress on a unit goes on, else the block idles. Log entry 3. -/
def State.proceed (s : State) : Out := if s.busy .rb then s.microStep .rb else s.microStep .adp

end Sys2Proof.Machine
end

