-- ==== Sys2Proof/Machine/Step.lean ====
section
/-! DEFINITION. One step of the block: serve the next input (R11, R70). -/

namespace Sys2Proof.Machine

/-- Serve a sampled request: decode the word on its port and run the operation (R91, R222). A reserved opcode is answered
`RESERVED_OP` in format RS and changes nothing (R108); port `E` without an edge does nothing (R96). -/
def State.serve (r : Request) (s : State) : Out :=
  match decode r.port r.word with
  | .instr i => exec i s
  | .reserved => s.answer (.rs .reservedOp)
  | .noEvent => .next s

/-- One step (R11): the next input is served. A command on a consumer port whose operation in progress has not ended stays
presented while that operation takes one micro-step (R280). -/
def step (s : State) : Host.Outcome State Fault Refusal :=
  let t := s.clearOutputs
  match nextInput t.inputs with
  | .nothing => t.proceed
  | .advance u rest => (t.withInputs rest).microStep u
  | .request r rest =>
    match t.waitsFor r.port with
    | some u => (t.withInputs (.request r :: rest)).microStep u
    | none => (t.sample r rest).serve r

/-- The state in which the very next step presents the word of an opcode-table row on the port that accepts it, with
the environment inputs of the latch, before all else lined up and with no operation in progress. Log entry 4. -/
def State.withFetchWord (s : State) (nbits w : Nat) : State :=
  { s with
    rbMicro := Micro.idle
    adpMicro := Micro.idle
    inputs := .request ⟨tablePort nbits w, tableWord nbits w, s.env⟩ :: s.inputs }

end Sys2Proof.Machine
end

