-- ==== Sys2Proof/Safety.lean ====
section
/-! DEFINITION. The terms claims are made in: the invariants of the machine (R32, R36, R40 to R46), what a buffer holds
(R64), the accounting law (R37), when a unit serves a consumer operation, and runs made of single operations. -/

namespace Sys2Proof.Machine

/-! ### What a buffer holds -/

/-- The slot indices of the occupied window, oldest first: `tail, inc(tail), ...`, `Occ` slots (R32). -/
def RB.window (c : Nat) (b : RB) : List Nat := (List.range (b.occ c)).map (fun k => (b.tail + k) % c)

/-- The unread entries, oldest first (R64). -/
def RB.contents (c : Nat) (b : RB) : List Entry := (b.window c).filterMap (Memory.read b.mem)

/-- The last `n` of a list: what overwrite-oldest keeps (R133). -/
def lastOf {α : Type} (n : Nat) (l : List α) : List α := l.drop (l.length - n)

/-! ### Invariants -/

/-- A usable buffer has valid indices and a high-water-mark inside the capacity (R25, R26, R36). -/
abbrev RB.Valid (c : Nat) (b : RB) : Prop := b.usable = true → 1 ≤ c ∧ b.head < c ∧ b.tail < c ∧ b.hwm ≤ c

/-- What holds of a buffer in every reachable state, whatever `ATOMIC` is: the memory is in its canonical form and
inside the slot array, the registers keep their widths, and a usable buffer has valid indices (R25, R26, R33 to R36). -/
abbrev RB.Shape (c w : Nat) (b : RB) : Prop :=
  Memory.wf b.mem = true ∧ Memory.within c b.mem = true ∧
  b.head < 2 ^ idxw c ∧ b.tail < 2 ^ idxw c ∧ b.hwm < 2 ^ occw c ∧
  b.puts < 2 ^ w ∧ b.gets < 2 ^ w ∧ b.ovf < 2 ^ w ∧ b.Valid c

/-- The invariant of R32 of a usable buffer, with its consequences. -/
abbrev RB.Sound (c : Nat) (b : RB) : Prop :=
  1 ≤ c ∧ b.head < c ∧ b.tail < c ∧ b.occ c ≤ c ∧ (b.full = true ↔ b.occ c = c) ∧ (b.full = true → b.head = b.tail) ∧
  b.occ c ≤ b.hwm ∧ b.hwm ≤ c ∧ ∀ i ∈ b.window c, (Memory.read b.mem i).isSome = true

/-- No consumer operation is in progress (R280). -/
abbrev State.quiet (s : State) : Prop := s.rbMicro.todo = [] ∧ s.adpMicro.todo = []

/-! ### Operations in progress

Inside an operation in progress the registers may disagree for a while (`INIT` has stored its operands and not yet left `READY`); what holds is
that the micro-steps still to run bring them to agree, whatever producer steps fall between (R280). -/

/-- What validity depends on in a buffer: `usable`, and whether `head`, `tail`, `hwm` are in range. A `PUT` keeps all four. -/
structure BufFlags where
  usable : Bool
  head   : Bool
  tail   : Bool
  hwm    : Bool
  deriving DecidableEq, Repr

/-- The flags of a buffer. -/
def RB.flags (c : Nat) (b : RB) : BufFlags := ⟨b.usable, decide (b.head < c), decide (b.tail < c), decide (b.hwm ≤ c)⟩

/-- A usable buffer is in range. -/
abbrev BufFlags.Valid (f : BufFlags) : Prop := f.usable = true → f.head = true ∧ f.tail = true ∧ f.hwm = true

/-- The flags after one write of a construction. -/
def BuildAct.flags (c w : Nat) (a : BuildAct) (f : BufFlags) : BufFlags :=
  match a with
  | .dropSlots | .clearFull | .zeroPuts | .zeroGets | .zeroOvf => f
  | .zeroHead => { f with head := decide (0 < c) }
  | .zeroTail => { f with tail := decide (0 < c) }
  | .zeroHwm => { f with hwm := true }
  | .setUsable u => { f with usable := u }
  | .fail n => (RB.unusableFrom c w n).flags c

/-- The ring buffer a unit's consumer port reads. -/
def ringOf : UnitId → RingId
  | .rb => .rb
  | .adp => .rx

/-- The flags of the buffer `k` after a micro-step of unit `u`. -/
def MicroAct.flags (u : UnitId) (k : RingId) (c w : Nat) (a : MicroAct) (f : BufFlags) : BufFlags :=
  match a with
  | .zeroHead => if k = ringOf u then { f with head := decide (0 < c) } else f
  | .zeroTail => if k = ringOf u then { f with tail := decide (0 < c) } else f
  | .build j b => if k = j then b.flags c w f else f
  | .clearFull | .advanceTail | .countGet | .countReceived | .countSent | .storePoll _ | .storeXtal _ | .writeSt _ => f
  | .writeIrq _ | .callChip _ | .checkNotEmpty _ | .readFrame | .answerLatched | .answerPeek | .answerTime => f
  | .sample _ | .readReceived | .readSent | .answer _ => f

/-- The micro-step ends its operation. -/
def MicroAct.ends : MicroAct → Bool
  | .answerLatched | .answerPeek | .answerTime | .answer _ => true
  | .clearFull | .advanceTail | .countGet | .zeroHead | .zeroTail | .countReceived | .countSent | .build _ _ => false
  | .storePoll _ | .storeXtal _ | .writeSt _ | .writeIrq _ | .callChip _ | .checkNotEmpty _ | .readFrame => false
  | .sample _ | .readReceived | .readSent => false

/-- The micro-step may end its operation, or leaves only an answer to give. -/
def MicroAct.mayEnd : MicroAct → Bool
  | .checkNotEmpty _ | .sample _ | .readReceived | .readSent => true
  | .answerLatched | .answerPeek | .answerTime | .answer _ => true
  | .clearFull | .advanceTail | .countGet | .zeroHead | .zeroTail | .countReceived | .countSent | .build _ _ => false
  | .storePoll _ | .storeXtal _ | .writeSt _ | .writeIrq _ | .callChip _ | .readFrame => false

/-- The buffer `k` stays valid all along the micro-steps `todo` of unit `u`; only a usable buffer's `tail` is advanced. -/
def BufFlags.Settles (u : UnitId) (k : RingId) (c w : Nat) (f : BufFlags) (todo : List MicroAct) : Prop :=
  match todo with
  | [] => f.Valid
  | a :: rest =>
    f.Valid ∧ (a.ends = true ∨ ((k = ringOf u → a = .advanceTail → f.usable = true) ∧
      BufFlags.Settles u k c w (a.flags u k c w f) rest))

/-- The registers of the adapter that must agree, and whether `rx` is usable. -/
structure AdpRegs where
  st       : AdpState
  irqReg   : Bool
  poll     : Bool
  xtal     : Xtal
  rxUsable : Bool
  deriving DecidableEq, Repr

/-- The adapter's registers in a state. -/
def State.adpRegs (s : State) : AdpRegs := ⟨s.st, s.irqReg, s.cfgPoll, s.cfgXtal, s.rx.usable⟩

/-- `READY` with a usable `rx`, registered as `cfg_poll` says and a legal crystal; `UNINIT` with nothing registered (R40, R42, R182). -/
abbrev AdpRegs.Agree (r : AdpRegs) : Prop :=
  (r.st = .ready → r.rxUsable = true ∧ r.irqReg = !r.poll ∧ r.xtal ≠ 3#2) ∧ (r.st = .uninit → r.irqReg = false)

/-- The adapter's registers after a micro-step of the adapter. -/
def MicroAct.regs (a : MicroAct) (r : AdpRegs) : AdpRegs :=
  match a with
  | .storePoll poll => { r with poll := poll }
  | .storeXtal xtal => { r with xtal := xtal }
  | .writeSt st => { r with st := st }
  | .writeIrq b => { r with irqReg := b }
  | .build .rx (.setUsable u) => { r with rxUsable := u }
  | .build .rx (.fail _) => { r with rxUsable := false }
  | .build _ _ => r
  | .clearFull | .advanceTail | .countGet | .zeroHead | .zeroTail | .countReceived | .countSent | .callChip _ => r
  | .checkNotEmpty _ | .readFrame | .answerLatched | .answerPeek | .answerTime => r
  | .sample _ | .readReceived | .readSent | .answer _ => r

/-- The adapter's registers agree wherever the micro-steps `todo` can end. -/
def AdpRegs.Settles (r : AdpRegs) (todo : List MicroAct) : Prop :=
  match todo with
  | [] => r.Agree
  | a :: rest => (a.mayEnd = true → r.Agree) ∧ (a.ends = true ∨ AdpRegs.Settles (a.regs r) rest)

/-- A micro-step of an operation of a unit: only the adapter's write the adapter's registers and buffers (R78). -/
def MicroAct.belongsTo : UnitId → MicroAct → Bool
  | .rb, a => match a with
    | .build k _ => decide (k = .rb)
    | .countReceived | .countSent | .storePoll _ | .storeXtal _ | .writeSt _ | .writeIrq _ | .callChip _ => false
    | .readReceived | .readSent => false
    | .clearFull | .advanceTail | .countGet | .zeroHead | .zeroTail | .checkNotEmpty _ | .readFrame => true
    | .answerLatched | .answerPeek | .answerTime | .sample _ | .answer _ => true
  | .adp, a => match a with
    | .build k _ => decide (k ≠ .rb)
    | .countReceived | .countSent | .storePoll _ | .storeXtal _ | .writeSt _ | .writeIrq _ | .callChip _ => true
    | .readReceived | .readSent => true
    | .clearFull | .advanceTail | .countGet | .zeroHead | .zeroTail | .checkNotEmpty _ | .readFrame => true
    | .answerLatched | .answerPeek | .answerTime | .sample _ | .answer _ => true

/-- What holds in every reachable state, whatever `ATOMIC` is. Where nothing is in progress its last but one clauses say that the
adapter's registers agree. -/
abbrev State.Shape (s : State) : Prop :=
  s.rb.Shape s.cfg.rbC s.cfg.cntw ∧ s.rx.Shape s.cfg.rxC s.cfg.cntw ∧ s.tx.Shape s.cfg.txC s.cfg.cntw ∧
  s.rxCount < 2 ^ s.cfg.cntw ∧ s.txCount < 2 ^ s.cfg.cntw ∧
  (∀ a ∈ s.rbMicro.todo, a.belongsTo .rb = true) ∧ (∀ a ∈ s.adpMicro.todo, a.belongsTo .adp = true) ∧
  (s.rb.flags s.cfg.rbC).Settles .rb .rb s.cfg.rbC s.cfg.cntw s.rbMicro.todo ∧
  (s.rx.flags s.cfg.rxC).Settles .adp .rx s.cfg.rxC s.cfg.cntw s.adpMicro.todo ∧
  (s.tx.flags s.cfg.txC).Settles .adp .tx s.cfg.txC s.cfg.cntw s.adpMicro.todo ∧
  s.adpRegs.Settles s.adpMicro.todo ∧
  (s.cfg.atomic = true → s.quiet)

/-- What holds in every reachable state of this hardware, whose operations are atomic (R32, R63). -/
abbrev State.Inv (s : State) : Prop :=
  s.Shape ∧ s.cfg.atomic = true ∧
  (s.rb.usable = true → s.rb.Sound s.cfg.rbC) ∧ (s.rx.usable = true → s.rx.Sound s.cfg.rxC) ∧
  (s.tx.usable = true → s.tx.Sound s.cfg.txC)

/-- The accounting law, modulo `2^CNTW` (R37): `puts - gets - ovf = Occ`. -/
abbrev RB.Accounted (c w : Nat) (b : RB) : Prop := b.puts % 2 ^ w = (b.gets + b.ovf + b.occ c) % 2 ^ w

/-! ### When a unit serves a consumer operation -/

/-- The request arrives on the consumer port of `u`, the adapter's gate and the buffer's gate let it pass (R102, R148,
R180). -/
abbrev State.serves (u : UnitId) (s : State) : Prop :=
  s.port = u.consumerPort ∧ (u = .adp → s.st = .ready) ∧ (s.buf u).usable = true

/-- An application command that passes the adapter's gate (R180). -/
abbrev State.applicationReady (s : State) : Prop := s.port = .adpA ∧ s.st = .ready

/-- The thirteen consumer operations that RB port `C` accepts and port `A` forwards (R102). -/
def consumerInstrs : List Instr :=
  [.get, .peek, .instime, .clear, .avail, .occ, .free, .full, .empty, .hwm, .putcnt, .getcnt, .ovfcnt]

/-! ### What initialisation leaves -/

/-- The buffer a construction leaves: empty with zero registers where `alloc_ok` is 1, usable unless the capacity is zero; else
unusable with no slot holding a value (R130, R50). -/
abbrev Constructed (allocOk : Bool) (c : Nat) (b : RB) : Prop :=
  if allocOk = true then b = ⟨[], 0, 0, false, 0, 0, 0, 0, decide (1 ≤ c)⟩ else b.usable = false ∧ b.mem = []

/-- Both buffers are allocated: the allocation of zero entries always succeeds (R182, R130(b), U12). Log entry 10. -/
abbrev State.allocates (s : State) : Prop :=
  (s.cfg.rxC = 0 ∨ s.env.allocOkRx = true) ∧ (s.cfg.txC = 0 ∨ s.env.allocOkTx = true)

/-- Every step of the initialisation succeeds (R182). -/
abbrev State.initSucceeds (xtal : Xtal) (s : State) : Prop :=
  s.allocates ∧ xtal ≠ 3#2 ∧ s.env.start = true ∧ s.env.setMode = true

/-- The calls an initialisation makes to the chip driver (R182, R240). -/
def State.initCalls (xtal : Xtal) (s : State) : List ChipCall :=
  if s.allocates ∧ xtal ≠ 3#2 then
    .start Config.mode Config.bitrate (Config.profile xtal) ::
      (if s.env.start = true then [.setOperatingMode Config.normal] else [])
  else []

/-- `t` is what an initialisation with `poll`, `xtal` makes of `s`, after the calls `before` (R182, R204): both buffers
constructed, the adapter `READY` and registered as `poll` says if every step succeeds, else `UNINIT` and not registered;
nothing else changes. -/
abbrev State.InitialisedTo (poll : Bool) (xtal : Xtal) (before : List ChipCall) (s t : State) : Prop :=
  Constructed s.env.allocOkRx s.cfg.rxC t.rx ∧ Constructed s.env.allocOkTx s.cfg.txC t.tx ∧
  t.calls = s.calls ++ before ++ s.initCalls xtal ∧
  (s.initSucceeds xtal → t.st = .ready ∧ t.irqReg = !poll ∧ t.resp = some (.rs .ok)) ∧
  (¬ s.initSucceeds xtal → t.st = .uninit ∧ t.irqReg = false ∧ t.resp = some (.rs .initFail)) ∧
  t = { s with
        cfgPoll := poll, cfgXtal := xtal, st := t.st, irqReg := t.irqReg, rx := t.rx, tx := t.tx
        free := t.free, resp := t.resp, calls := t.calls }

/-! ### Runs made of single operations -/

/-- Go on from a next state. -/
def andThen (o : Out) (k : State → Out) : Out :=
  match o with
  | .next s => k s
  | .fault e => .fault e
  | .refused r => .refused r

/-- Change the state an outcome carries. -/
def mapOut (g : State → State) (o : Out) : Out := andThen o (fun s => .next (g s))

/-- `n` micro-steps of the operation in progress on `u`, with nothing between them. -/
def microSteps (u : UnitId) (n : Nat) (s : State) : Out :=
  match n with
  | 0 => .next s
  | k + 1 => andThen (s.microStep u) (microSteps u k)

/-- As many micro-steps as any operation has: those of `RESET`. -/
def enoughMicroSteps : Nat := 28

/-- Select the atomic machine or the preemptible refinement. -/
def State.withAtomic (a : Bool) (s : State) : State := { s with cfg := { s.cfg with atomic := a } }

/-- A whole producer step of a unit ordered here (R280): a `PUT` of `f` on the standalone buffer, an edge that finds `f` on the
adapter, with its `now`. The port and the environment inputs go back to the consumer. -/
def producerStep (u : UnitId) (f : Frame) (t : Timestamp) (s : State) : Out :=
  mapOut (fun r => { r with port := s.port, env := s.env })
    (match u with
      | .rb => execPut f { s with port := .rbP, env := { s.env with now := t } }
      | .adp => execPstep { s with port := .adpE, env := { s.env with now := t, receive := some f } })

/-- The operations with a single read of the buffer (R282). -/
def singleReadInstrs : List Instr := [.peek, .instime, .avail, .occ, .free, .full, .empty, .hwm, .putcnt, .getcnt, .ovfcnt]

/-- An operation of unit `u` in micro-steps, with one producer step in the gap after its first `k + 1` micro-steps (R280, R281): for
`GET`, `k = 0` is the gap `g0`-`g1` and `k = 4` the gap `g4`-`g5`. -/
def splitByProducer (u : UnitId) (i : Instr) (k : Nat) (f : Frame) (t : Timestamp) (s : State) : Out :=
  andThen (andThen (andThen (exec i s) (microSteps u k)) (producerStep u f t)) (microSteps u enoughMicroSteps)

/-- The gaps of a `GET` or `GETMSG` that R282 calls harmless, `o` entries of `c` being held at `g0`: all but `g1`-`g2` of a full buffer and
`g2`-`g3` of one with `C` or `C-1` entries, where `C = 1` has only the first exception. -/
abbrev HarmlessGap (c o k : Nat) : Prop := (k = 1 → o < c) ∧ (k = 2 → o + 2 ≤ c ∨ c = 1)

/-- The instruction constructs the buffer that unit `u` reads (R130, R182, R204). -/
def State.constructs (u : UnitId) (i : Instr) (s : State) : Prop :=
  (u = .rb ∧ s.port = .rbC ∧ i = .construct) ∨
  (u = .adp ∧ s.port = .adpA ∧ ((∃ p x, i = .init p x) ∨ (i = .reset ∧ s.st = .ready)))

/-- The buffer after a sequence of `PUT`s with no other operation between (R133). -/
def RB.putAll (c w : Nat) (l : List (Frame × Timestamp)) (b : RB) : RB :=
  l.foldl (fun d p => d.putBody c w p.1 p.2) b

/-- Exchange the roles of the standalone buffer and the receive buffer: what forwarding means (R210). -/
def State.swapUnits (s : State) : State :=
  { s with
    cfg := { s.cfg with rbC := s.cfg.rxC, rxC := s.cfg.rbC }
    rb := s.rx
    rx := s.rb
    rbMicro := s.adpMicro
    adpMicro := s.rbMicro }

/-! ### The runs of R283 to R285 -/

/-- The standalone buffer of the runs of R283 to R285: capacity 4, `ATOMIC = false`, given registers and slots. -/
def hazardStart (head tail : Nat) (full : Bool) (puts gets hwm : Nat) (slots : List Entry) : State :=
  { State.reset with
    cfg := ⟨4, 4, 0, 32, false⟩
    port := .rbC
    rb := ⟨(List.range slots.length).zip slots, head, tail, full, puts, gets, 0, hwm, true⟩ }

/-- What a run ends with: the registers of the standalone buffer, the identifiers of its unread frames, the response. -/
structure RunEnd where
  head : Nat
  tail : Nat
  full : Bool
  puts : Nat
  gets : Nat
  ovf  : Nat
  hwm  : Nat
  held : List FrameId
  resp : Option Response
  deriving DecidableEq, Repr

/-- The end of a run that has a next state. -/
def hazardEnd (o : Out) : Option RunEnd :=
  match o with
  | .next s => some ⟨s.rb.head, s.rb.tail, s.rb.full, s.rb.puts, s.rb.gets, s.rb.ovf, s.rb.hwm,
      (s.rb.contents 4).map (·.frame.id), s.resp⟩
  | .fault _ => none
  | .refused _ => none

/-- The frame `Ek` of R283, `X` being 9. -/
def hazardFrame (k : Nat) : Frame := ⟨BitVec.ofNat 32 k, 0, ⟨0, 0, 0, 0, 0, 0, 0, 0⟩⟩

/-- The start of R283: capacity 4, full, `E0` to `E3` in the slots `0` to `3`. -/
def hazardFull : State := hazardStart 0 0 true 4 0 4 ((List.range 4).map (fun k => ⟨hazardFrame k, 0⟩))

/-- The second start of R284: `E0`, `E1`, `E2` held, slot 3 free. -/
def hazardOneFree : State := hazardStart 3 0 false 3 0 3 ((List.range 3).map (fun k => ⟨hazardFrame k, 0⟩))

end Sys2Proof.Machine
end

