-- ==== Sys2Proof/Certificates/Slice0/Obligations.lean ====
section
/-! DEFINITION. The statements for the provers: encodings, the step, the ring buffer, its accessors, the gates, the adapter,
whole-machine rules, invariants, and the preemptible refinement. -/

open Sys2Proof Sys2Proof.Machine

/-! ### Encodings -/

/-- R92 to R95, R100, R102: on every port that accepts it, the word of an instruction decodes to that instruction, every
operand at every value. -/
def Obligations.DecodeOfEncodeIsTheInstruction : Prop :=
  ∀ (i : Instr) (p : Port), i.wf = true → p.accepts i = true → decode p (encode i) = .instr i

/-- The other direction: a command word that decodes to `i` has, in the bits of `i`'s format, the word of `i`. -/
def Obligations.EncodeOfDecodeIsTheWord : Prop :=
  ∀ (w : CmdWord) (i : Instr), decodeCmd w = some i → (encode i).toNat = w.toNat % 2 ^ i.width

/-- R91, U26: bits of a command word above its format's width are ignored. -/
def Obligations.BitsAboveFormatAreIgnored : Prop :=
  ∀ (v w : CmdWord) (i : Instr), decodeCmd w = some i → v.toNat % 2 ^ i.width = w.toNat % 2 ^ i.width →
    decodeCmd v = some i

/-- R108: the reserved opcodes are `0x00`, `0x06` to `0x0E`, `0x19` to `0x7F`, `0x87` to `0xFF`; one presented on a command
port is answered `RESERVED_OP` in format RS and changes no state. -/
def Obligations.ReservedOpcodeIsAnsweredAndChangesNothing : Prop :=
  ∀ (w : CmdWord),
    (decodeCmd w = none ↔
      w.toNat % 256 = 0x00 ∨ (0x06 ≤ w.toNat % 256 ∧ w.toNat % 256 ≤ 0x0E) ∨
      (0x19 ≤ w.toNat % 256 ∧ w.toNat % 256 ≤ 0x7F) ∨ 0x87 ≤ w.toNat % 256) ∧
    ∀ (s : State) (p : Port) (e : Env) (rest : List Input),
      decodeCmd w = none → p ≠ .adpE → s.inputs = .request ⟨p, w, e⟩ :: rest → s.waitsFor p = none →
      step s = .next { s with port := p, env := e, inputs := rest, resp := some (.rs .reservedOp), calls := [] }

/-- R104: the places of a frame's fields in the packed frame and of a frame and timestamp in the packed entry; packing
loses nothing and every word is a packed frame (entry); the rule's example. -/
def Obligations.PackedFrameAndEntryLayout : Prop :=
  (∀ f : Frame,
    f.pack.extractLsb' 0 32 = f.id ∧ f.pack.extractLsb' 32 4 = f.len ∧
    f.pack.extractLsb' 36 8 = f.data.d0 ∧ f.pack.extractLsb' 44 8 = f.data.d1 ∧
    f.pack.extractLsb' 52 8 = f.data.d2 ∧ f.pack.extractLsb' 60 8 = f.data.d3 ∧
    f.pack.extractLsb' 68 8 = f.data.d4 ∧ f.pack.extractLsb' 76 8 = f.data.d5 ∧
    f.pack.extractLsb' 84 8 = f.data.d6 ∧ f.pack.extractLsb' 92 8 = f.data.d7) ∧
  (∀ e : Entry, e.pack.extractLsb' 0 100 = e.frame.pack ∧ e.pack.extractLsb' 100 32 = e.ts) ∧
  (∀ f : Frame, Frame.unpack f.pack = f) ∧ (∀ w : BitVec 100, (Frame.unpack w).pack = w) ∧
  (∀ e : Entry, Entry.unpack e.pack = e) ∧ (∀ w : BitVec 132, (Entry.unpack w).pack = w) ∧
  Frame.pack ⟨0x00000100, 1, ⟨0xA0, 0, 0, 0, 0, 0, 0, 0⟩⟩ = 0x00000000000000A0100000100#100

/-- R93, R94, R95: the places of the operand fields of formats F, I and S, and the formats' widths. -/
def Obligations.OperandFieldsOfFormatsFIS : Prop :=
  (∀ f : Frame,
    let w := encode (.put f)
    w.extractLsb' 0 8 = 0x01#8 ∧ w.extractLsb' 8 32 = f.id ∧ w.extractLsb' 40 4 = f.len ∧
    w.extractLsb' 44 8 = f.data.d0 ∧ w.extractLsb' 52 8 = f.data.d1 ∧ w.extractLsb' 60 8 = f.data.d2 ∧
    w.extractLsb' 68 8 = f.data.d3 ∧ w.extractLsb' 76 8 = f.data.d4 ∧ w.extractLsb' 84 8 = f.data.d5 ∧
    w.extractLsb' 92 8 = f.data.d6 ∧ w.extractLsb' 100 8 = f.data.d7 ∧ w.toNat < 2 ^ 108) ∧
  (∀ (poll : Bool) (xtal : Xtal),
    let w := encode (.init poll xtal)
    w.extractLsb' 0 8 = 0x80#8 ∧ w.getLsbD 8 = poll ∧ w.extractLsb' 9 2 = xtal ∧ w.toNat < 2 ^ 11) ∧
  (∀ (f : Frame) (rtr ext : Bool) (prio : Prio),
    let w := encode (.send f rtr ext prio)
    w.extractLsb' 0 8 = 0x83#8 ∧ w.extractLsb' 8 100 = f.pack ∧ w.getLsbD 108 = rtr ∧ w.getLsbD 109 = ext ∧
    w.extractLsb' 110 8 = prio)

/-- R112: the spec's examples of encoded command words and response words. -/
def Obligations.ExampleWordsOfTheSpec : Prop :=
  decode .rbP 0x00000000000000A010000010001#118 = .instr (.put ⟨0x00000100, 1, ⟨0xA0, 0, 0, 0, 0, 0, 0, 0⟩⟩) ∧
  decode .rbC 0x02#118 = .instr .get ∧
  decode .adpA 0x280#118 = .instr (.init false 0b01) ∧
  decode .adpA 0x180#118 = .instr (.init true 0b00) ∧
  decode .adpA 0x680#118 = .instr (.init false 0b11) ∧
  Response.word 32 (.rf .ok true ⟨0x00000100, 1, ⟨0xA0, 0, 0, 0, 0, 0, 0, 0⟩⟩) = 0x000000000000001402000002010 ∧
  Response.word 32 (.rv .ok 4) = 0x000000040 ∧
  Response.word 32 (.rf .empty false Frame.zero) = 0x000000000000000000000000001

/-- R220, R110: the eight status codes; the status stands in bits `[3:0]` of every response word, the payload above it as its format says, inside the
format's width. -/
def Obligations.ResponseWordLayout : Prop :=
  Status.code .ok = 0 ∧ Status.code .empty = 1 ∧ Status.code .notReady = 2 ∧ Status.code .unusable = 3 ∧
  Status.code .reservedOp = 4 ∧ Status.code .initFail = 5 ∧ Status.code .sendFail = 6 ∧ Status.code .wrongPort = 7 ∧
  ∀ (vw : Nat) (r : Response),
    r.word vw % 16 = r.status.code.toNat ∧ r.word vw < 2 ^ (r.format.width vw) ∧
    match r with
    | .rs _ => True
    | .rl _ b => r.word vw / 16 = b.toNat
    | .rv _ v => r.word vw / 16 = v % 2 ^ vw
    | .rf _ valid f => r.word vw / 16 % 2 = valid.toNat ∧ r.word vw / 32 = f.pack.toNat
    | .rt _ valid ts => r.word vw / 16 % 2 = valid.toNat ∧ r.word vw / 32 = ts.toNat

/-! ### The step -/

/-- R11, R91: a step serves the request presented first: when its word decodes to `i` on its port, the step is `exec i` in the
state with the request's port and environment inputs sampled, the request taken off the inputs and the outputs of the last
step taken off the ports. -/
def Obligations.StepRunsTheDecodedInstruction : Prop :=
  ∀ (s : State) (r : Request) (rest : List Input) (i : Instr),
    s.inputs = .request r :: rest → s.waitsFor r.port = none → decode r.port r.word = .instr i →
    step s = exec i { s with port := r.port, env := r.env, inputs := rest, resp := none, calls := [] }

/-- R72: a producer request and a consumer command of a unit presented together are both served, one in the next step and the
other in the step after it, in the order the environment chooses. For states of the invariant with `RXC >= 1`. -/
def Obligations.CoincidingRequestsAreBothServed : Prop :=
  ∀ (s : State) (u : UnitId) (pw cw : CmdWord) (pe ce : Env) (producerFirst : Bool) (rest : List Input),
    s.Inv → 1 ≤ s.cfg.rxC → s.inputs = .coincide u pw pe cw ce producerFirst :: rest →
    ∃ t1 t2, step s = .next t1 ∧ step t1 = .next t2 ∧
      t1.port = (if producerFirst then u.producerPort else u.consumerPort) ∧ t1.env = (if producerFirst then pe else ce) ∧
      t1.inputs = .request (if producerFirst then ⟨u.consumerPort, cw, ce⟩ else ⟨u.producerPort, pw, pe⟩) :: rest ∧
      t2.port = (if producerFirst then u.consumerPort else u.producerPort) ∧ t2.env = (if producerFirst then ce else pe) ∧
      t2.inputs = rest ∧
      step s = step (s.withInputs
        (if producerFirst then [.request ⟨u.producerPort, pw, pe⟩, .request ⟨u.consumerPort, cw, ce⟩] ++ rest
          else [.request ⟨u.consumerPort, cw, ce⟩, .request ⟨u.producerPort, pw, pe⟩] ++ rest))

/-- The model's own choice (log entries 3 and 16): with nothing presented, or port `E` presented without an edge, the step
only takes the last outputs off the ports and the input off the list. -/
def Obligations.NothingPresentedNothingHappens : Prop :=
  (∀ s : State, s.quiet → s.inputs = [] → step s = .next { s with resp := none, calls := [] }) ∧
  (∀ (s : State) (w : CmdWord) (e : Env) (rest : List Input),
    w.getLsbD 0 = false → s.inputs = .request ⟨.adpE, w, e⟩ :: rest →
    step s = .next { s with port := .adpE, env := e, inputs := rest, resp := none, calls := [] })

/-- The model's own choice (log entry 17): while a consumer operation is in progress on a unit, a command on its consumer port stays
presented and the operation takes one micro-step. R280: a request on a producer port waits for nothing. -/
def Obligations.CommandWaitsForOperationInProgress : Prop :=
  (∀ (s : State) (u : UnitId) (w : CmdWord) (e : Env) (rest : List Input),
    (s.micro u).todo ≠ [] → s.inputs = .request ⟨u.consumerPort, w, e⟩ :: rest →
    step s = State.microStep u { s with resp := none, calls := [] }) ∧
  (∀ (s : State) (u : UnitId) (w : CmdWord) (e : Env) (rest : List Input) (i : Instr),
    s.inputs = .request ⟨u.producerPort, w, e⟩ :: rest → decode u.producerPort w = .instr i →
    step s = exec i { s with port := u.producerPort, env := e, inputs := rest, resp := none, calls := [] })

/-! ### Index and occupancy -/

/-- R131: for `0 <= i < C` the increment is `(i + 1) mod C` and a valid index. -/
def Obligations.IndexIncrement : Prop :=
  ∀ c i : Nat, i < c → inc c i = (i + 1) % c ∧ inc c i < c

/-- R30, R32: for valid indices a buffer that is not full holds fewer than `C` entries, and exactly `head == tail` is empty; the
window of `Occ` slots from `tail` ends at `head`, modulo `C`. -/
def Obligations.OccupancyMeasuresTheWindow : Prop :=
  ∀ (c : Nat) (b : RB), b.head < c → b.tail < c → (b.full = true → b.head = b.tail) →
    (b.full = false → b.occ c < c) ∧ (b.full = true → b.occ c = c) ∧
    (b.occ c = 0 ↔ b.head = b.tail ∧ b.full = false) ∧ (b.tail + b.occ c) % c = b.head

/-! ### Ring buffer data operations -/

/-- R132: `PUT` on a usable buffer always answers `OK`; every register's new value; every slot but `slot[head]` reads as
before; nothing else of the state changes. -/
def Obligations.PutStoresAndEvictsSilently : Prop :=
  ∀ (s : State) (f : Frame), responseFormat (.put f) = some .rs ∧ (
    s.port = .rbP → s.rb.usable = true → s.rb.head < s.cfg.rbC → s.rb.tail < s.cfg.rbC →
    ∃ b : RB, exec (.put f) s = .next { s with rb := b, resp := some (.rs .ok) } ∧
      (∀ a, Memory.read b.mem a = if a = s.rb.head then some ⟨f, s.env.now⟩ else Memory.read s.rb.mem a) ∧
      b.ovf = (if s.rb.full then (s.rb.ovf + 1) % 2 ^ s.cfg.cntw else s.rb.ovf) ∧
      b.tail = (if s.rb.full then (s.rb.tail + 1) % s.cfg.rbC else s.rb.tail) ∧
      b.head = (s.rb.head + 1) % s.cfg.rbC ∧
      b.full = decide (b.head = b.tail) ∧
      b.hwm = max s.rb.hwm (b.occ s.cfg.rbC) ∧
      b.puts = (s.rb.puts + 1) % 2 ^ s.cfg.cntw ∧
      b.gets = s.rb.gets ∧ b.usable = true)

/-- R136: `GET` where a unit serves it: `EMPTY` and no change on an empty buffer; else the frame at `tail`, `full` cleared,
`tail` advanced, `gets` counted; no slot changes. -/
def Obligations.GetReturnsTheTailFrame : Prop :=
  decodeCmd 0x02#118 = some .get ∧ responseFormat .get = some .rf ∧
  ∀ (u : UnitId) (s : State), s.serves u → s.cfg.atomic = true → (s.buf u).tail < s.cap u →
    ((s.buf u).occ (s.cap u) = 0 → exec .get s = .next { s with resp := some (.rf .empty false Frame.zero) }) ∧
    (∀ e, (s.buf u).occ (s.cap u) ≠ 0 → Memory.read (s.buf u).mem (s.buf u).tail = some e →
      exec .get s = .next ((s.setBuf u { s.buf u with
          full := false
          tail := ((s.buf u).tail + 1) % s.cap u
          gets := ((s.buf u).gets + 1) % 2 ^ s.cfg.cntw }).withResp (.rf .ok true e.frame)))

/-- R140: `PEEK` answers what `GET` would and changes nothing. -/
def Obligations.PeekReturnsTheTailFrameAndChangesNothing : Prop :=
  decodeCmd 0x03#118 = some .peek ∧ responseFormat .peek = some .rf ∧
  ∀ (u : UnitId) (s : State), s.serves u → s.cfg.atomic = true → (s.buf u).tail < s.cap u →
    ((s.buf u).occ (s.cap u) = 0 → exec .peek s = .next { s with resp := some (.rf .empty false Frame.zero) }) ∧
    (∀ e, (s.buf u).occ (s.cap u) ≠ 0 → Memory.read (s.buf u).mem (s.buf u).tail = some e →
      exec .peek s = .next { s with resp := some (.rf .ok true e.frame) })

/-- R144: `INSTIME` answers the timestamp at `tail`; on an empty buffer `EMPTY` with some timestamp, of which nothing is said;
nothing changes but the model's own count of free values. -/
def Obligations.InstimeReturnsTheTailTimestamp : Prop :=
  decodeCmd 0x04#118 = some .instime ∧ responseFormat .instime = some .rt ∧
  ∀ (u : UnitId) (s : State), s.serves u → s.cfg.atomic = true → (s.buf u).tail < s.cap u →
    ((s.buf u).occ (s.cap u) = 0 → ∃ (ts : Timestamp) (n : Nat),
      exec .instime s = .next { s with free := n, resp := some (.rt .empty false ts) }) ∧
    (∀ e, (s.buf u).occ (s.cap u) ≠ 0 → Memory.read (s.buf u).mem (s.buf u).tail = some e → ∃ n : Nat,
      exec .instime s = .next { s with free := n, resp := some (.rt .ok true e.ts) })

/-- R146: `CLEAR` sets `head`, `tail`, `full` to 0 and keeps every counter, the high-water-mark and the slots; the buffer is
empty afterwards. -/
def Obligations.ClearEmptiesAndKeepsCounters : Prop :=
  decodeCmd 0x05#118 = some .clear ∧ responseFormat .clear = some .rs ∧
  ∀ (u : UnitId) (s : State), s.serves u → s.cfg.atomic = true →
    ∃ t, exec .clear s = .next t ∧
      t = (s.setBuf u { s.buf u with head := 0, tail := 0, full := false }).withResp (.rs .ok) ∧
      (t.buf u).occ (s.cap u) = 0 ∧ (t.buf u).contents (s.cap u) = []

/-- R130, R50, and log entry 10 (DEDUCED) for a zero capacity: `CONSTRUCT` on RB port `C` with atomic operations: with `alloc_ok` every
register 0 and `usable` unless `C = 0`, else unusable; the status is `UNUSABLE` for a failed allocation of at least one entry and
`OK` otherwise, as R130(b) and U12 have it where R130's pseudocode has `UNUSABLE`; nothing else changes but the model's own count
of free values. -/
def Obligations.ConstructMakesAFreshOrUnusableBuffer : Prop :=
  decodeCmd 0x0F#118 = some .construct ∧ responseFormat .construct = some .rs ∧
  ∀ s : State, s.port = .rbC → s.cfg.atomic = true →
    ∃ t, exec .construct s = .next t ∧
      Constructed s.env.allocOk s.cfg.rbC t.rb ∧
      t.resp = some (.rs (if s.cfg.rbC = 0 ∨ s.env.allocOk = true then .ok else .unusable)) ∧
      t = { s with rb := t.rb, free := t.free, resp := t.resp }

/-- R64, R132, R200: a `PUT` on the standalone buffer, and an edge that finds a frame, append the entry and keep the last `C`
entries, oldest first. -/
def Obligations.ProducerKeepsTheNewestEntries : Prop :=
  (∀ (s : State) (f : Frame), s.port = .rbP → s.rb.usable = true → s.rb.Sound s.cfg.rbC →
    ∃ t, exec (.put f) s = .next t ∧
      t.rb.contents s.cfg.rbC = lastOf s.cfg.rbC (s.rb.contents s.cfg.rbC ++ [⟨f, s.env.now⟩]) ∧
      t.rb.occ s.cfg.rbC = min (s.rb.occ s.cfg.rbC + 1) s.cfg.rbC) ∧
  (∀ (s : State) (f : Frame), s.st = .ready → s.irqReg = true → s.rx.usable = true → s.rx.Sound s.cfg.rxC →
    s.env.receive = some f →
    ∃ t, exec .pstep s = .next t ∧
      t.rx.contents s.cfg.rxC = lastOf s.cfg.rxC (s.rx.contents s.cfg.rxC ++ [⟨f, s.env.now⟩]) ∧
      t.rx.occ s.cfg.rxC = min (s.rx.occ s.cfg.rxC + 1) s.cfg.rxC)

/-- R64, R136, R140, R144: entries come out oldest first: `GET` returns the frame of the oldest entry and leaves the others;
`PEEK` and `INSTIME` answer about the same entry and leave all. -/
def Obligations.ConsumerTakesTheOldestEntry : Prop :=
  ∀ (u : UnitId) (s : State), s.serves u → s.cfg.atomic = true → (s.buf u).Sound (s.cap u) →
    ((s.buf u).contents (s.cap u) = [] ↔ (s.buf u).occ (s.cap u) = 0) ∧
    ∀ (e : Entry) (es : List Entry), (s.buf u).contents (s.cap u) = e :: es →
      (∃ t, exec .get s = .next t ∧ t.resp = some (.rf .ok true e.frame) ∧ (t.buf u).contents (s.cap u) = es) ∧
      (∃ t, exec .peek s = .next t ∧ t.resp = some (.rf .ok true e.frame) ∧ t.buf u = s.buf u) ∧
      (∃ t, exec .instime s = .next t ∧ t.resp = some (.rt .ok true e.ts) ∧ t.buf u = s.buf u)

/-- R133: any number of `PUT`s into a fresh buffer of capacity `C >= 1` with no other operation between: the occupancy is
the smaller of their number and `C`, the overflow count what exceeds `C`, the high-water-mark the occupancy, and the buffer
holds exactly the last `C` entries in put order. -/
def Obligations.PutsIntoAFreshBuffer : Prop :=
  ∀ (c w : Nat) (l : List (Frame × Timestamp)), 1 ≤ c →
    (RB.putAll c w l RB.fresh).occ c = min l.length c ∧
    (RB.putAll c w l RB.fresh).ovf = (l.length - c) % 2 ^ w ∧
    (RB.putAll c w l RB.fresh).puts = l.length % 2 ^ w ∧
    (RB.putAll c w l RB.fresh).gets = 0 ∧
    (RB.putAll c w l RB.fresh).hwm = min l.length c ∧
    (RB.putAll c w l RB.fresh).contents c = lastOf c (l.map (fun p => ⟨p.1, p.2⟩))

/-- R37: `puts - gets - ovf = Occ` modulo `2^CNTW` is kept by every operation but `CLEAR`, for either buffer the ports reach, and holds
after every construction that leaves the buffer usable, whether it held before or a `CLEAR` had broken it. -/
def Obligations.AccountingLawKeptByAllButClear : Prop :=
  ∀ (i : Instr) (s t : State) (u : UnitId), s.Inv → exec i s = .next t → (t.buf u).usable = true →
    (s.constructs u i → (t.buf u).Accounted (t.cap u) t.cfg.cntw) ∧
    (i ≠ .clear → ((s.buf u).usable = true → (s.buf u).Accounted (s.cap u) s.cfg.cntw) →
      (t.buf u).Accounted (t.cap u) t.cfg.cntw)

/-- R36: only a construction lowers the high-water-mark. -/
def Obligations.HighWaterMarkNeverFalls : Prop :=
  ∀ (i : Instr) (s t : State) (u : UnitId), exec i s = .next t →
    i ≠ .construct → (∀ p x, i ≠ .init p x) → i ≠ .reset → (s.buf u).hwm ≤ (t.buf u).hwm

/-! ### Accessors -/

/-- R160, R163, R164: the boolean accessors, on either consumer port; nothing changes but the response. -/
def Obligations.BooleanAccessorsAnswer : Prop :=
  decodeCmd 0x10#118 = some .avail ∧ responseFormat .avail = some .rl ∧
  decodeCmd 0x13#118 = some .full ∧ responseFormat .full = some .rl ∧
  decodeCmd 0x14#118 = some .empty ∧ responseFormat .empty = some .rl ∧
  ∀ (u : UnitId) (s : State), s.serves u → s.cfg.atomic = true →
    exec .avail s = .next { s with resp := some (.rl .ok (decide (0 < (s.buf u).occ (s.cap u)))) } ∧
    exec .full s = .next { s with resp := some (.rl .ok (s.buf u).full) } ∧
    exec .empty s = .next { s with resp := some (.rl .ok (decide ((s.buf u).occ (s.cap u) = 0))) } ∧
    ((s.buf u).Sound (s.cap u) →
      (s.buf u).full = decide ((s.buf u).occ (s.cap u) = s.cap u) ∧
      ((s.buf u).occ (s.cap u) = 0 ↔ (s.buf u).head = (s.buf u).tail ∧ (s.buf u).full = false))

/-- R161, R162: `OCC` and `FREE`, on either consumer port; their ranges under the invariant of R32. -/
def Obligations.OccupancyAccessorsAnswer : Prop :=
  decodeCmd 0x11#118 = some .occ ∧ responseFormat .occ = some .rv ∧
  decodeCmd 0x12#118 = some .free ∧ responseFormat .free = some .rv ∧
  ∀ (u : UnitId) (s : State), s.serves u → s.cfg.atomic = true →
    exec .occ s = .next { s with resp := some (.rv .ok ((s.buf u).occ (s.cap u))) } ∧
    exec .free s = .next { s with resp := some (.rv .ok (s.cap u - (s.buf u).occ (s.cap u))) } ∧
    ((s.buf u).Sound (s.cap u) →
      (s.buf u).occ (s.cap u) ≤ s.cap u ∧
      ((s.buf u).occ (s.cap u) = s.cap u ↔ (s.buf u).full = true) ∧
      (s.cap u - (s.buf u).occ (s.cap u) = 0 ↔ (s.buf u).full = true) ∧
      (s.cap u - (s.buf u).occ (s.cap u) = s.cap u ↔ (s.buf u).occ (s.cap u) = 0))

/-- R165 to R168: the high-water-mark and the counters, on either consumer port. -/
def Obligations.CounterAccessorsAnswer : Prop :=
  decodeCmd 0x15#118 = some .hwm ∧ responseFormat .hwm = some .rv ∧
  decodeCmd 0x16#118 = some .putcnt ∧ responseFormat .putcnt = some .rv ∧
  decodeCmd 0x17#118 = some .getcnt ∧ responseFormat .getcnt = some .rv ∧
  decodeCmd 0x18#118 = some .ovfcnt ∧ responseFormat .ovfcnt = some .rv ∧
  ∀ (u : UnitId) (s : State), s.serves u → s.cfg.atomic = true →
    exec .hwm s = .next { s with resp := some (.rv .ok (s.buf u).hwm) } ∧
    exec .putcnt s = .next { s with resp := some (.rv .ok (s.buf u).puts) } ∧
    exec .getcnt s = .next { s with resp := some (.rv .ok (s.buf u).gets) } ∧
    exec .ovfcnt s = .next { s with resp := some (.rv .ok (s.buf u).ovf) }

/-! ### Gates and ports -/

/-- R148, R169: on a buffer with `usable = 0` every ring buffer command but `CONSTRUCT` answers `UNUSABLE` in its own format with
zero payload and changes no state (the count of free values is the model's own). -/
def Obligations.UnusableBufferRefusesCommands : Prop :=
  (∀ (s : State) (f : Frame), s.port = .rbP → s.rb.usable = false →
    exec (.put f) s = .next { s with resp := some (.rs .unusable) }) ∧
  (∀ (u : UnitId) (s : State) (i : Instr) (fmt : RespFormat), i ∈ consumerInstrs → responseFormat i = some fmt →
    s.port = u.consumerPort → (u = .adp → s.st = .ready) → (s.buf u).usable = false →
    ∃ n : Nat, exec i s = .next { s with free := n, resp := some (fmt.failed .unusable) })

/-- R180, R222: in `UNINIT` every command on port `A` but `INIT` answers `NOT_READY` in its own format with zero payload and
changes no state, whatever the buffer is like (the count of free values is the model's own). -/
def Obligations.UninitialisedAdapterRefusesCommands : Prop :=
  ∀ (s : State) (i : Instr) (fmt : RespFormat), s.port = .adpA → s.st = .uninit → Port.accepts .adpA i = true →
    (∀ p x, i ≠ .init p x) → responseFormat i = some fmt →
    ∃ n : Nat, exec i s = .next { s with free := n, resp := some (fmt.failed .notReady) }

/-- R102: a defined command on a port that does not accept it answers `WRONG_PORT` in format RS and changes no state (the
count of free values is the model's own). The event `PSTEP` is no command. -/
def Obligations.WrongPortIsAnsweredAndChangesNothing : Prop :=
  ∀ (s : State) (i : Instr), i ≠ .pstep → s.port.accepts i = false →
    ∃ n : Nat, exec i s = .next { s with free := n, resp := some (.rs .wrongPort) }

/-- R210: a forwarded command on port `A` of a `READY` adapter is the same command on the standalone buffer's port `C` with the two
buffers exchanged: it acts on `rx` as on a ring buffer, adds nothing to `rx_count`, runs no production step. -/
def Obligations.ForwardedCommandActsOnTheReceiveBuffer : Prop :=
  ∀ (s : State) (i : Instr), i ∈ consumerInstrs → s.applicationReady →
    exec i s = mapOut (fun t => { t.swapUnits with port := .adpA }) (exec i { s.swapUnits with port := .rbC })

/-! ### The adapter -/

/-- R182: `INIT` on port `A`, in either adapter state, with `RXC >= 1` and atomic operations. Where `TXC = 0` the allocation of `tx` never
fails: R182's own words, which log entry 10 (DEDUCED) sets above R130's pseudocode. -/
def Obligations.InitInitialisesOrFails : Prop :=
  ∀ (s : State) (poll : Bool) (xtal : Xtal), responseFormat (.init poll xtal) = some .rs ∧
    (s.port = .adpA → s.cfg.atomic = true → 1 ≤ s.cfg.rxC → ∃ t, exec (.init poll xtal) s = .next t ∧ s.InitialisedTo poll xtal [] t)

/-- R204: `RESET` on port `A`: refused in `UNINIT`; of a `READY` adapter with `RXC >= 1` the handle is recreated, then initialisation
runs with the stored operands; `rx_count` and `tx_count` are kept. For `TXC = 0` as in the statement of `INIT` (log entry 10,
DEDUCED). -/
def Obligations.ResetReinitialisesWithStoredOperands : Prop :=
  decodeCmd 0x84#118 = some .reset ∧ responseFormat .reset = some .rs ∧
  ∀ s : State, s.port = .adpA →
    (s.st ≠ .ready → exec .reset s = .next { s with resp := some (.rs .notReady) }) ∧
    (s.st = .ready → s.cfg.atomic = true → 1 ≤ s.cfg.rxC → ∃ t, exec .reset s = .next t ∧ s.InitialisedTo s.cfgPoll s.cfgXtal [.recreate] t)

/-- U12: with `RXC = 0`, an elaboration error, the model has no transition for `INIT`, nor for `RESET` of a `READY` adapter. -/
def Obligations.ZeroReceiveCapacityIsRefused : Prop :=
  ∀ s : State, s.cfg.rxC = 0 →
    (∀ poll xtal, s.port = .adpA → exec (.init poll xtal) s = .refused .zeroReceiveCapacity) ∧
    (s.applicationReady → exec .reset s = .refused .zeroReceiveCapacity)

/-- R186: `AAVAIL` on port `A`: refused in `UNINIT`; on a `READY` adapter, in interrupt mode it only answers; in polling mode it first runs one
production step, and after a step that deposited a frame the answer is 1. -/
def Obligations.AavailPollsInPollingModeOnly : Prop :=
  decodeCmd 0x81#118 = some .aavail ∧ responseFormat .aavail = some .rl ∧
  (∀ s : State, s.port = .adpA → s.st ≠ .ready → exec .aavail s = .next { s with resp := some (.rl .notReady false) }) ∧
  ∀ s : State, s.applicationReady → s.cfg.atomic = true →
    (s.cfgPoll = false →
      exec .aavail s = .next { s with resp := some (.rl .ok (decide (0 < s.rx.occ s.cfg.rxC))) }) ∧
    (s.cfgPoll = true → s.env.receive = none →
      exec .aavail s = .next { s with
        calls := s.calls ++ [.receive], resp := some (.rl .ok (decide (0 < s.rx.occ s.cfg.rxC))) }) ∧
    (∀ f, s.cfgPoll = true → s.env.receive = some f → s.rx.usable = true → s.rx.Sound s.cfg.rxC →
      exec .aavail s = .next { s with
        rx := s.rx.putBody s.cfg.rxC s.cfg.cntw f s.env.now
        calls := s.calls ++ [.receive], resp := some (.rl .ok true) })

/-- R190: `GETMSG` on port `A`: refused in `UNINIT`; on a `READY` adapter `EMPTY` and no change on an empty buffer; else the buffer's `GET`, with the
received-message counter raised. -/
def Obligations.GetmsgTakesAndCounts : Prop :=
  decodeCmd 0x82#118 = some .getmsg ∧ responseFormat .getmsg = some .rf ∧
  (∀ s : State, s.port = .adpA → s.st ≠ .ready →
    exec .getmsg s = .next { s with resp := some (.rf .notReady false Frame.zero) }) ∧
  ∀ s : State, s.applicationReady → s.cfg.atomic = true → s.rx.usable = true → s.rx.tail < s.cfg.rxC →
    (s.rx.occ s.cfg.rxC = 0 → exec .getmsg s = .next { s with resp := some (.rf .empty false Frame.zero) }) ∧
    (∀ e, s.rx.occ s.cfg.rxC ≠ 0 → Memory.read s.rx.mem s.rx.tail = some e →
      exec .getmsg s = .next { s with
        rx := { s.rx with
          full := false, tail := (s.rx.tail + 1) % s.cfg.rxC, gets := (s.rx.gets + 1) % 2 ^ s.cfg.cntw }
        rxCount := (s.rxCount + 1) % 2 ^ s.cfg.cntw
        resp := some (.rf .ok true e.frame) })

/-- R196: `SEND` on port `A`: refused in `UNINIT`; a `READY` adapter submits the header encoder's frame with bits 31 and 30 of its identifier set to `ext`
and `rtr`, and counts it exactly if the chip accepts it; no ring buffer state changes. -/
def Obligations.SendSubmitsAndCountsSuccess : Prop :=
  ∀ (s : State) (f : Frame) (rtr ext : Bool) (prio : Prio), s.port = .adpA →
    responseFormat (.send f rtr ext prio) = some .rs ∧
    (s.st ≠ .ready → exec (.send f rtr ext prio) s = .next { s with resp := some (.rs .notReady) }) ∧
    (s.st = .ready → s.cfg.atomic = true → ∃ g : Frame,
      g.id.getLsbD 31 = ext ∧ g.id.getLsbD 30 = rtr ∧
      (∀ k, k < 30 → g.id.getLsbD k = (Config.makeHeader f prio).id.getLsbD k) ∧
      g.len = (Config.makeHeader f prio).len ∧ g.data = (Config.makeHeader f prio).data ∧
      exec (.send f rtr ext prio) s = .next { s with
        calls := s.calls ++ [.send g]
        txCount := if s.env.send then (s.txCount + 1) % 2 ^ s.cfg.cntw else s.txCount
        resp := some (.rs (if s.env.send then .ok else .sendFail)) })

/-- R208, R209: `RXCNT` and `TXCNT` on port `A` of a `READY` adapter, their opcodes and format; no state change. -/
def Obligations.MessageCountersAreRead : Prop :=
  decodeCmd 0x85#118 = some .rxcnt ∧ decodeCmd 0x86#118 = some .txcnt ∧
  responseFormat .rxcnt = some .rv ∧ responseFormat .txcnt = some .rv ∧
  ∀ s : State, s.port = .adpA →
    (s.st ≠ .ready → exec .rxcnt s = .next { s with resp := some (.rv .notReady 0) } ∧
      exec .txcnt s = .next { s with resp := some (.rv .notReady 0) }) ∧
    (s.st = .ready → s.cfg.atomic = true → exec .rxcnt s = .next { s with resp := some (.rv .ok s.rxCount) } ∧
      exec .txcnt s = .next { s with resp := some (.rv .ok s.txCount) })

/-- R228, R200: an edge runs exactly one production step if the adapter is `READY` and registered: one `chip.receive`, and a frame it
delivers is put into `rx` as it is, with no response; any other edge is discarded without a trace. -/
def Obligations.EdgeRunsOneProductionStepOrIsDiscarded : Prop :=
  ∀ s : State,
    (¬ (s.st = .ready ∧ s.irqReg = true) → exec .pstep s = .next s) ∧
    (s.st = .ready → s.irqReg = true → s.env.receive = none →
      exec .pstep s = .next { s with calls := s.calls ++ [.receive] }) ∧
    (∀ f, s.st = .ready → s.irqReg = true → s.env.receive = some f → s.rx.usable = true → s.rx.head < s.cfg.rxC →
      exec .pstep s = .next { s with
        rx := s.rx.putBody s.cfg.rxC s.cfg.cntw f s.env.now, calls := s.calls ++ [.receive] })

/-! ### Whole-machine rules -/

/-- R40 to R45: who writes each adapter register, over all instructions; the parameters never change. -/
def Obligations.WritersOfTheAdapterRegisters : Prop :=
  ∀ (i : Instr) (s t : State), exec i s = .next t →
    t.cfg = s.cfg ∧
    ((∀ p x, i ≠ .init p x) → i ≠ .reset → t.st = s.st ∧ t.irqReg = s.irqReg ∧ t.tx = s.tx) ∧
    ((∀ p x, i ≠ .init p x) → t.cfgPoll = s.cfgPoll ∧ t.cfgXtal = s.cfgXtal) ∧
    (i ≠ .getmsg → t.rxCount = s.rxCount) ∧
    ((∀ f r e p, i ≠ .send f r e p) → t.txCount = s.txCount)

/-- R38: who writes each register of the standalone ring buffer, over all instructions. -/
def Obligations.WritersOfTheBufferRegisters : Prop :=
  ∀ (i : Instr) (s t : State), exec i s = .next t → i ≠ .construct →
    t.rb.usable = s.rb.usable ∧
    ((∀ f, i ≠ .put f) → t.rb.mem = s.rb.mem ∧ t.rb.puts = s.rb.puts ∧ t.rb.ovf = s.rb.ovf ∧ t.rb.hwm = s.rb.hwm) ∧
    ((∀ f, i ≠ .put f) → i ≠ .clear → t.rb.head = s.rb.head) ∧
    ((∀ f, i ≠ .put f) → i ≠ .clear → i ≠ .get → t.rb.tail = s.rb.tail ∧ t.rb.full = s.rb.full) ∧
    (i ≠ .get → t.rb.gets = s.rb.gets)

/-- R78: the two units share no state: an instruction on a port of one changes nothing of the other. -/
def Obligations.UnitsAreIndependent : Prop :=
  ∀ (i : Instr) (s t : State), exec i s = .next t →
    (s.port = .adpA ∨ s.port = .adpE → t.rb = s.rb ∧ t.rbMicro = s.rbMicro) ∧
    (i ≠ .pstep → s.port = .rbP ∨ s.port = .rbC →
      t.st = s.st ∧ t.cfgPoll = s.cfgPoll ∧ t.cfgXtal = s.cfgXtal ∧ t.irqReg = s.irqReg ∧ t.rxCount = s.rxCount ∧
      t.txCount = s.txCount ∧ t.rx = s.rx ∧ t.tx = s.tx ∧ t.adpMicro = s.adpMicro ∧ t.calls = s.calls)

/-- R110: with atomic operations every command yields exactly one response, in the format its opcode fixes where the port accepts
it; the event yields none. -/
def Obligations.OneResponsePerCommand : Prop :=
  ∀ (i : Instr) (s t : State), s.cfg.atomic = true → exec i s = .next t →
    (i = .pstep → t.resp = s.resp) ∧
    (i ≠ .pstep → ∃ r, t.resp = some r ∧
      (s.port.accepts i = true → responseFormat i = some r.format) ∧ (s.port.accepts i = false → r = .rs .wrongPort))

/-- R224, R220: with atomic operations a failure other than a failed `CONSTRUCT` or a failed initialisation changes nothing but the
response, the calls already made to the chip and the model's own count of free values. -/
def Obligations.FailureChangesNothing : Prop :=
  ∀ (i : Instr) (s t : State) (r : Response), s.cfg.atomic = true → exec i s = .next t → i ≠ .construct → i ≠ .pstep →
    t.resp = some r → r.status ≠ .ok → r.status ≠ .initFail →
    t = { s with free := t.free, resp := some r, calls := t.calls }

/-- R240, R270, R271: an instruction makes at most one `chip.receive`, and only an edge on a `READY`, registered adapter or an `AAVAIL`
in polling mode makes one. -/
def Obligations.OnlyProductionStepsReceive : Prop :=
  ∀ (i : Instr) (s t : State), exec i s = .next t →
    ∃ l, t.calls = s.calls ++ l ∧ l.count .receive ≤ 1 ∧
      (.receive ∈ l → (i = .pstep ∧ s.st = .ready ∧ s.irqReg = true) ∨
        (i = .aavail ∧ s.port = .adpA ∧ s.st = .ready ∧ s.cfgPoll = true))

/-! ### Invariants -/

/-- R50, R260(a): the values the spec gives at power-on. -/
def Obligations.PowerOnState : Prop :=
  State.reset.st = .uninit ∧ State.reset.irqReg = false ∧ State.reset.rxCount = 0 ∧ State.reset.txCount = 0 ∧
  State.reset.rb.usable = false ∧ State.reset.rx.usable = false ∧ State.reset.tx.usable = false ∧
  ∀ a, Memory.read State.reset.rb.mem a = none ∧ Memory.read State.reset.rx.mem a = none ∧
    Memory.read State.reset.tx.mem a = none

/-- The invariants hold at the model's power-on state. The model's own choice: the width bounds rest on the zeros of log entry 5 (DESIGN
CHOICE) and on the default parameters of log entry 1 (DESIGN CHOICE). -/
def Obligations.PowerOnMeetsTheInvariants : Prop := State.reset.Inv ∧ State.reset.Shape

/-- R32, R63: every step of the atomic machine keeps the invariant. -/
def Obligations.StepKeepsTheInvariant : Prop :=
  ∀ s t : State, s.Inv → step s = .next t → t.Inv

/-- R25, R26, R33 to R36, R40, R42: with `ATOMIC` true or false every step keeps the memories canonical and inside their slots, the
registers inside their widths, the indices of usable buffers valid, and the adapter's registers in agreement wherever no operation
is in progress, and on the way to agreement inside one. -/
def Obligations.StepKeepsTheShape : Prop :=
  ∀ s t : State, s.Shape → step s = .next t → t.Shape

/-- R11, R221, R224: in a state of the invariant with `RXC >= 1` a step always has a next state: nothing waits, faults or is refused. -/
def Obligations.StepAlwaysCompletes : Prop :=
  ∀ s : State, s.Inv → 1 ≤ s.cfg.rxC → ∃ t, step s = .next t

/-! ### The preemptible refinement -/

/-- R280, R281: every consumer-side operation run in micro-steps with nothing ordered between them ends exactly as the atomic operation
does, on either consumer port. -/
def Obligations.MicroStepsAloneEqualTheAtomicOperation : Prop :=
  ∀ (i : Instr) (u : UnitId) (s : State), i ≠ .pstep → s.port = u.consumerPort → s.micro u = Micro.idle →
    andThen (exec i (s.withAtomic false)) (microSteps u enoughMicroSteps) =
      mapOut (State.withAtomic false) (exec i (s.withAtomic true))

/-- R282: a producer step in a gap of a `GET` on either unit, or of a `GETMSG`, is harmless in every gap but `g1`-`g2` of a full buffer
and `g2`-`g3` of one with `C` or `C-1` entries (for `C = 1` only the first): the buffer and the answer are those of one of the two atomic
orders. A `GET` of an empty buffer has no gap. -/
def Obligations.HarmlessGapsOfGet : Prop :=
  ∀ (u : UnitId) (i : Instr) (s : State) (f : Frame) (ts : Timestamp) (k : Nat),
    (i = .get ∧ k ≤ 4) ∨ (i = .getmsg ∧ u = .adp ∧ k ≤ 5) → s.cfg.atomic = false → s.micro u = Micro.idle → s.serves u →
    (s.buf u).Sound (s.cap u) → 1 ≤ (s.buf u).occ (s.cap u) → HarmlessGap (s.cap u) ((s.buf u).occ (s.cap u)) k →
    ∃ t po o op, splitByProducer u i k f ts s = .next t ∧
      andThen (producerStep u f ts s) (fun r => exec i (r.withAtomic true)) = .next po ∧
      exec i (s.withAtomic true) = .next o ∧ producerStep u f ts o = .next op ∧
      ((t.buf u = po.buf u ∧ t.resp = po.resp) ∨ (t.buf u = op.buf u ∧ t.resp = o.resp)) ∧ t.rxCount = o.rxCount

/-- R282: `PEEK`, `INSTIME` and the accessors on either unit, and on the adapter `AAVAIL` in interrupt mode, `RXCNT` and `TXCNT`, with a
producer step between their two micro-steps leave the buffer after that step and answer what one of the two atomic orders answers
(`PEEK` and `INSTIME` of an empty buffer end with their first micro-step). -/
def Obligations.HarmlessGapOfSingleReads : Prop :=
  ∀ (u : UnitId) (i : Instr) (s : State) (f : Frame) (ts : Timestamp),
    i ∈ singleReadInstrs ∨ (u = .adp ∧ (i = .rxcnt ∨ i = .txcnt ∨ (i = .aavail ∧ s.cfgPoll = false))) →
    s.cfg.atomic = false → s.micro u = Micro.idle → s.serves u → (s.buf u).Sound (s.cap u) →
    (i = .peek ∨ i = .instime → 1 ≤ (s.buf u).occ (s.cap u)) →
    ∃ t po o, splitByProducer u i 0 f ts s = .next t ∧
      andThen (producerStep u f ts s) (fun r => exec i (r.withAtomic true)) = .next po ∧
      exec i (s.withAtomic true) = .next o ∧ t.buf u = po.buf u ∧ (t.resp = po.resp ∨ t.resp = o.resp)

/-- R280, R228, R182, R204, in the model's grain of these operations (log entry 18, DESIGN CHOICE): an `INIT` has written `st <- UNINIT`
with its third micro-step, a `RESET` with its first; an edge in any gap from there to the write `st <- READY` is discarded. Of the gaps
outside, the first two of an `INIT` and the one before the answer `OK`, nothing is claimed: an edge may run there. -/
def Obligations.EdgeBetweenUninitAndReadyIsDiscarded : Prop :=
  ∀ (s : State) (i : Instr) (k : Nat), s.port = .adpA → s.cfg.atomic = false → s.adpMicro = Micro.idle → 1 ≤ s.cfg.rxC →
    ((∃ poll xtal, i = .init poll xtal) ∧ 2 ≤ k) ∨ (i = .reset ∧ s.st = .ready) →
    ∃ t, andThen (exec i s) (microSteps .adp k) = .next t ∧
      ((t.st = .uninit ∧ exec .pstep t = .next t) ∨
        (t.st = .ready ∧ (t.adpMicro.todo = [.answer (.rs .ok)] ∨ t.adpMicro.todo = [])))

/-- R283: an overflowing `PUT` between `g1` and `g2` of a `GET` on a full buffer: the consumer gets `E0`; `E1` is neither delivered nor
counted. The two atomic orders end otherwise: `E1` comes out, or `E1 E2 E3 X` are held after `E0`. -/
def Obligations.HazardOfPutBetweenReadAndClear : Prop :=
  hazardEnd (splitByProducer .rb .get 1 (hazardFrame 9) 0 hazardFull) =
    some ⟨1, 2, false, 5, 1, 1, 4, [2, 3, 9], some (.rf .ok true (hazardFrame 0))⟩ ∧
  hazardEnd (andThen (producerStep .rb (hazardFrame 9) 0 (hazardFull.withAtomic true)) execGet) =
    some ⟨1, 2, false, 5, 1, 1, 4, [2, 3, 9], some (.rf .ok true (hazardFrame 1))⟩ ∧
  hazardEnd (execGet (hazardFull.withAtomic true)) =
    some ⟨0, 1, false, 4, 1, 0, 4, [1, 2, 3], some (.rf .ok true (hazardFrame 0))⟩ ∧
  hazardEnd (andThen (execGet (hazardFull.withAtomic true)) (producerStep .rb (hazardFrame 9) 0)) =
    some ⟨1, 1, true, 5, 1, 0, 4, [1, 2, 3, 9], some (.rs .ok)⟩

/-- R284: after `g2` on a buffer that was full the state reads as empty. A `PUT` between `g2` and `g3`: on a buffer that was full every unread
frame is lost; on one holding `C-1` entries `full` is
set with `head` and `tail` apart, the occupancy reads 4 with three entries held, and a following `PUT` evicts `E1`. -/
def Obligations.HazardOfPutBetweenClearAndAdvance : Prop :=
  hazardEnd (andThen (exec .get hazardFull) (microSteps .rb 2)) = some ⟨0, 0, false, 4, 0, 0, 4, [], none⟩ ∧
  hazardEnd (splitByProducer .rb .get 2 (hazardFrame 9) 0 hazardFull) =
    some ⟨1, 1, false, 5, 1, 0, 4, [], some (.rf .ok true (hazardFrame 0))⟩ ∧
  hazardEnd (splitByProducer .rb .get 2 (hazardFrame 9) 0 hazardOneFree) =
    some ⟨0, 1, true, 4, 1, 0, 4, [1, 2, 9, 0], some (.rf .ok true (hazardFrame 0))⟩ ∧
  hazardEnd (andThen (splitByProducer .rb .get 2 (hazardFrame 9) 0 hazardOneFree) (producerStep .rb (hazardFrame 8) 0)) =
    some ⟨1, 2, false, 5, 1, 1, 4, [2, 9, 8], some (.rs .ok)⟩

/-- R285: a `PUT` between `c1` and `c2` of a `CLEAR` of a full buffer: the new frame is lost and an overflow is counted. One between
`c0` and `c1` on a buffer that never held more than one entry records a high-water-mark of 3. -/
def Obligations.HazardOfPutInsideClear : Prop :=
  hazardEnd (splitByProducer .rb .clear 1 (hazardFrame 9) 0
      (hazardStart 2 2 true 4 0 4 ((List.range 4).map (fun k => ⟨hazardFrame k, 0⟩)))) =
    some ⟨1, 1, false, 5, 0, 1, 4, [], some (.rs .ok)⟩ ∧
  hazardEnd (splitByProducer .rb .clear 0 (hazardFrame 9) 0
      (hazardStart 3 2 false 3 2 1 ((List.range 3).map (fun k => ⟨hazardFrame k, 0⟩)))) =
    some ⟨1, 0, false, 4, 2, 0, 3, [9], some (.rs .ok)⟩
end

