-- ==== Sys2Proof/Laws/Memory.lean ====
section
/-! SUPPORT. What every operation on slot memory does: a read after a write, and the canonical form. -/

namespace Sys2Proof.Machine

/-- A read after a write: the slot written reads as written, every other slot as before. -/
theorem Memory.read_write (m : Memory) (a x : Nat) (e : Entry) :
    Memory.read (Memory.write m a e) x = if x = a then some e else Memory.read m x := by
  induction m with
  | nil => by_cases h : a = x <;> simp [Memory.write, Memory.read, h, eq_comm]
  | cons p rest ih =>
    obtain ⟨k, d⟩ := p
    simp only [Memory.write]
    by_cases h : a = x
    · subst h
      split
      · simp [Memory.read]
      · split
        · simp [Memory.read]
        · rename_i hne
          simp [Memory.read, Ne.symm hne, ih]
    · have h' : x ≠ a := Ne.symm h
      split
      · simp [Memory.read, h]
      · split
        · subst_vars
          simp [Memory.read, h]
        · simp [Memory.read, h', ih]

@[simp] theorem Memory.read_write_same (m : Memory) (a : Nat) (e : Entry) :
    Memory.read (Memory.write m a e) a = some e := by simp [Memory.read_write]

theorem Memory.read_write_other (m : Memory) {a x : Nat} (e : Entry) (h : x ≠ a) :
    Memory.read (Memory.write m a e) x = Memory.read m x := by simp [Memory.read_write, h]

@[simp] theorem Memory.read_empty (a : Nat) : Memory.read [] a = none := rfl

theorem Memory.above_trans {m : Memory} {a b : Nat} (h : a < b) (hm : Memory.above b m = true) :
    Memory.above a m = true := by
  induction m with
  | nil => rfl
  | cons p rest ih =>
    simp only [Memory.above, Bool.and_eq_true, decide_eq_true_eq] at hm ⊢
    exact ⟨Nat.lt_trans h hm.1, ih hm.2⟩

theorem Memory.above_write {m : Memory} {b a : Nat} (e : Entry) (h : b < a) (hm : Memory.above b m = true) :
    Memory.above b (Memory.write m a e) = true := by
  induction m with
  | nil => simp [Memory.write, Memory.above, h]
  | cons p rest ih =>
    simp only [Memory.above, Bool.and_eq_true, decide_eq_true_eq] at hm
    simp only [Memory.write]
    split
    · simp [Memory.above, h, hm]
    · split <;> simp [Memory.above, h, hm, ih]

/-- A write keeps the canonical form. -/
theorem Memory.wf_write {m : Memory} (a : Nat) (e : Entry) (hm : Memory.wf m = true) :
    Memory.wf (Memory.write m a e) = true := by
  induction m with
  | nil => rfl
  | cons p rest ih =>
    obtain ⟨k, d⟩ := p
    simp only [Memory.wf, Bool.and_eq_true] at hm
    simp only [Memory.write]
    split
    · rename_i h
      simp [Memory.wf, Memory.above, h, hm.1, hm.2, Memory.above_trans h hm.1]
    · split
      · subst_vars
        simp [Memory.wf, hm.1, hm.2]
      · have h : k < a := by omega
        simp [Memory.wf, Memory.above_write e h hm.1, ih hm.2]

/-- A write to a slot stays inside the slot array. -/
theorem Memory.within_write {m : Memory} {c a : Nat} (e : Entry) (h : a < c) (hm : Memory.within c m = true) :
    Memory.within c (Memory.write m a e) = true := by
  induction m with
  | nil => simp [Memory.write, Memory.within, h]
  | cons p rest ih =>
    simp only [Memory.within, Bool.and_eq_true, decide_eq_true_eq] at hm
    simp only [Memory.write]
    split
    · simp [Memory.within, h, hm]
    · split <;> simp [Memory.within, h, hm, ih]

/-- In canonical form equal contents are equal data: an index that is not above the first is read nowhere else. -/
theorem Memory.read_of_above {m : Memory} {a b : Nat} (h : a ≤ b) (hm : Memory.above b m = true) :
    Memory.read m a = none := by
  induction m with
  | nil => rfl
  | cons p rest ih =>
    simp only [Memory.above, Bool.and_eq_true, decide_eq_true_eq] at hm
    have : p.1 ≠ a := by omega
    simp [Memory.read, this, ih hm.2]

/-- Two memories in canonical form that read alike are equal. -/
theorem Memory.ext_of_wf {m n : Memory} (hm : Memory.wf m = true) (hn : Memory.wf n = true)
    (h : ∀ a, Memory.read m a = Memory.read n a) : m = n := by
  induction m generalizing n with
  | nil =>
    cases n with
    | nil => rfl
    | cons q _ => have := h q.1; simp [Memory.read] at this
  | cons p rest ih =>
    cases n with
    | nil => have := h p.1; simp [Memory.read] at this
    | cons q rest' =>
      obtain ⟨k, d⟩ := p
      obtain ⟨l, e⟩ := q
      simp only [Memory.wf, Bool.and_eq_true] at hm hn
      have hkl : k = l := by
        by_contra hne
        rcases Nat.lt_or_gt_of_ne hne with hlt | hlt
        · have := h k
          simp [Memory.read, Ne.symm hne, Memory.read_of_above (Nat.le_of_lt hlt) hn.1] at this
        · have := h l
          simp [Memory.read, hne, Memory.read_of_above (Nat.le_of_lt hlt) hm.1] at this
      subst hkl
      have hde : d = e := by simpa [Memory.read] using h k
      subst hde
      congr 1
      refine ih hm.2 hn.2 fun a => ?_
      by_cases hak : k = a
      · subst hak
        rw [Memory.read_of_above (Nat.le_refl _) hm.1, Memory.read_of_above (Nat.le_refl _) hn.1]
      · simpa [Memory.read, hak] using h a

end Sys2Proof.Machine
end

