-- ==== Sys2Proof/Laws/State.lean ====
section
/-! SUPPORT. The small lemmas of every named update of State and of a ring buffer: one per field, so that no later proof
unfolds a record update. -/

namespace Sys2Proof.Machine

/-! ### Updates of the state -/

@[simp] theorem State.withResp_cfg (r : Response) (s : State) : (s.withResp r).cfg = s.cfg := rfl
@[simp] theorem State.withResp_rb (r : Response) (s : State) : (s.withResp r).rb = s.rb := rfl
@[simp] theorem State.withResp_st (r : Response) (s : State) : (s.withResp r).st = s.st := rfl
@[simp] theorem State.withResp_cfgPoll (r : Response) (s : State) : (s.withResp r).cfgPoll = s.cfgPoll := rfl
@[simp] theorem State.withResp_cfgXtal (r : Response) (s : State) : (s.withResp r).cfgXtal = s.cfgXtal := rfl
@[simp] theorem State.withResp_irqReg (r : Response) (s : State) : (s.withResp r).irqReg = s.irqReg := rfl
@[simp] theorem State.withResp_rxCount (r : Response) (s : State) : (s.withResp r).rxCount = s.rxCount := rfl
@[simp] theorem State.withResp_txCount (r : Response) (s : State) : (s.withResp r).txCount = s.txCount := rfl
@[simp] theorem State.withResp_rx (r : Response) (s : State) : (s.withResp r).rx = s.rx := rfl
@[simp] theorem State.withResp_tx (r : Response) (s : State) : (s.withResp r).tx = s.tx := rfl
@[simp] theorem State.withResp_rbMicro (r : Response) (s : State) : (s.withResp r).rbMicro = s.rbMicro := rfl
@[simp] theorem State.withResp_adpMicro (r : Response) (s : State) : (s.withResp r).adpMicro = s.adpMicro := rfl
@[simp] theorem State.withResp_free (r : Response) (s : State) : (s.withResp r).free = s.free := rfl
@[simp] theorem State.withResp_port (r : Response) (s : State) : (s.withResp r).port = s.port := rfl
@[simp] theorem State.withResp_env (r : Response) (s : State) : (s.withResp r).env = s.env := rfl
@[simp] theorem State.withResp_inputs (r : Response) (s : State) : (s.withResp r).inputs = s.inputs := rfl
@[simp] theorem State.withResp_resp (r : Response) (s : State) : (s.withResp r).resp = some r := rfl
@[simp] theorem State.withResp_calls (r : Response) (s : State) : (s.withResp r).calls = s.calls := rfl

@[simp] theorem State.useFree_cfg (n : Nat) (s : State) : (s.useFree n).cfg = s.cfg := rfl
@[simp] theorem State.useFree_rb (n : Nat) (s : State) : (s.useFree n).rb = s.rb := rfl
@[simp] theorem State.useFree_st (n : Nat) (s : State) : (s.useFree n).st = s.st := rfl
@[simp] theorem State.useFree_cfgPoll (n : Nat) (s : State) : (s.useFree n).cfgPoll = s.cfgPoll := rfl
@[simp] theorem State.useFree_cfgXtal (n : Nat) (s : State) : (s.useFree n).cfgXtal = s.cfgXtal := rfl
@[simp] theorem State.useFree_irqReg (n : Nat) (s : State) : (s.useFree n).irqReg = s.irqReg := rfl
@[simp] theorem State.useFree_rxCount (n : Nat) (s : State) : (s.useFree n).rxCount = s.rxCount := rfl
@[simp] theorem State.useFree_txCount (n : Nat) (s : State) : (s.useFree n).txCount = s.txCount := rfl
@[simp] theorem State.useFree_rx (n : Nat) (s : State) : (s.useFree n).rx = s.rx := rfl
@[simp] theorem State.useFree_tx (n : Nat) (s : State) : (s.useFree n).tx = s.tx := rfl
@[simp] theorem State.useFree_rbMicro (n : Nat) (s : State) : (s.useFree n).rbMicro = s.rbMicro := rfl
@[simp] theorem State.useFree_adpMicro (n : Nat) (s : State) : (s.useFree n).adpMicro = s.adpMicro := rfl
@[simp] theorem State.useFree_free (n : Nat) (s : State) : (s.useFree n).free = s.free + n := rfl
@[simp] theorem State.useFree_port (n : Nat) (s : State) : (s.useFree n).port = s.port := rfl
@[simp] theorem State.useFree_env (n : Nat) (s : State) : (s.useFree n).env = s.env := rfl
@[simp] theorem State.useFree_inputs (n : Nat) (s : State) : (s.useFree n).inputs = s.inputs := rfl
@[simp] theorem State.useFree_resp (n : Nat) (s : State) : (s.useFree n).resp = s.resp := rfl
@[simp] theorem State.useFree_calls (n : Nat) (s : State) : (s.useFree n).calls = s.calls := rfl

@[simp] theorem State.call_cfg (k : ChipCall) (s : State) : (s.call k).cfg = s.cfg := rfl
@[simp] theorem State.call_rb (k : ChipCall) (s : State) : (s.call k).rb = s.rb := rfl
@[simp] theorem State.call_st (k : ChipCall) (s : State) : (s.call k).st = s.st := rfl
@[simp] theorem State.call_cfgPoll (k : ChipCall) (s : State) : (s.call k).cfgPoll = s.cfgPoll := rfl
@[simp] theorem State.call_cfgXtal (k : ChipCall) (s : State) : (s.call k).cfgXtal = s.cfgXtal := rfl
@[simp] theorem State.call_irqReg (k : ChipCall) (s : State) : (s.call k).irqReg = s.irqReg := rfl
@[simp] theorem State.call_rxCount (k : ChipCall) (s : State) : (s.call k).rxCount = s.rxCount := rfl
@[simp] theorem State.call_txCount (k : ChipCall) (s : State) : (s.call k).txCount = s.txCount := rfl
@[simp] theorem State.call_rx (k : ChipCall) (s : State) : (s.call k).rx = s.rx := rfl
@[simp] theorem State.call_tx (k : ChipCall) (s : State) : (s.call k).tx = s.tx := rfl
@[simp] theorem State.call_rbMicro (k : ChipCall) (s : State) : (s.call k).rbMicro = s.rbMicro := rfl
@[simp] theorem State.call_adpMicro (k : ChipCall) (s : State) : (s.call k).adpMicro = s.adpMicro := rfl
@[simp] theorem State.call_free (k : ChipCall) (s : State) : (s.call k).free = s.free := rfl
@[simp] theorem State.call_port (k : ChipCall) (s : State) : (s.call k).port = s.port := rfl
@[simp] theorem State.call_env (k : ChipCall) (s : State) : (s.call k).env = s.env := rfl
@[simp] theorem State.call_inputs (k : ChipCall) (s : State) : (s.call k).inputs = s.inputs := rfl
@[simp] theorem State.call_resp (k : ChipCall) (s : State) : (s.call k).resp = s.resp := rfl
@[simp] theorem State.call_calls (k : ChipCall) (s : State) : (s.call k).calls = s.calls ++ [k] := rfl

@[simp] theorem State.unregister_cfg (s : State) : (s.unregister).cfg = s.cfg := rfl
@[simp] theorem State.unregister_rb (s : State) : (s.unregister).rb = s.rb := rfl
@[simp] theorem State.unregister_st (s : State) : (s.unregister).st = .uninit := rfl
@[simp] theorem State.unregister_cfgPoll (s : State) : (s.unregister).cfgPoll = s.cfgPoll := rfl
@[simp] theorem State.unregister_cfgXtal (s : State) : (s.unregister).cfgXtal = s.cfgXtal := rfl
@[simp] theorem State.unregister_irqReg (s : State) : (s.unregister).irqReg = false := rfl
@[simp] theorem State.unregister_rxCount (s : State) : (s.unregister).rxCount = s.rxCount := rfl
@[simp] theorem State.unregister_txCount (s : State) : (s.unregister).txCount = s.txCount := rfl
@[simp] theorem State.unregister_rx (s : State) : (s.unregister).rx = s.rx := rfl
@[simp] theorem State.unregister_tx (s : State) : (s.unregister).tx = s.tx := rfl
@[simp] theorem State.unregister_rbMicro (s : State) : (s.unregister).rbMicro = s.rbMicro := rfl
@[simp] theorem State.unregister_adpMicro (s : State) : (s.unregister).adpMicro = s.adpMicro := rfl
@[simp] theorem State.unregister_free (s : State) : (s.unregister).free = s.free := rfl
@[simp] theorem State.unregister_port (s : State) : (s.unregister).port = s.port := rfl
@[simp] theorem State.unregister_env (s : State) : (s.unregister).env = s.env := rfl
@[simp] theorem State.unregister_inputs (s : State) : (s.unregister).inputs = s.inputs := rfl
@[simp] theorem State.unregister_resp (s : State) : (s.unregister).resp = s.resp := rfl
@[simp] theorem State.unregister_calls (s : State) : (s.unregister).calls = s.calls := rfl

@[simp] theorem State.constructBuffers_cfg (s : State) : (s.constructBuffers).cfg = s.cfg := rfl
@[simp] theorem State.constructBuffers_rb (s : State) : (s.constructBuffers).rb = s.rb := rfl
@[simp] theorem State.constructBuffers_st (s : State) : (s.constructBuffers).st = s.st := rfl
@[simp] theorem State.constructBuffers_cfgPoll (s : State) : (s.constructBuffers).cfgPoll = s.cfgPoll := rfl
@[simp] theorem State.constructBuffers_cfgXtal (s : State) : (s.constructBuffers).cfgXtal = s.cfgXtal := rfl
@[simp] theorem State.constructBuffers_irqReg (s : State) : (s.constructBuffers).irqReg = s.irqReg := rfl
@[simp] theorem State.constructBuffers_rxCount (s : State) : (s.constructBuffers).rxCount = s.rxCount := rfl
@[simp] theorem State.constructBuffers_txCount (s : State) : (s.constructBuffers).txCount = s.txCount := rfl
@[simp] theorem State.constructBuffers_rx (s : State) : (s.constructBuffers).rx = constructed s.cfg.rxC s.cfg.cntw s.env.allocOkRx s.free := rfl
@[simp] theorem State.constructBuffers_tx (s : State) : (s.constructBuffers).tx = constructed s.cfg.txC s.cfg.cntw s.env.allocOkTx (s.free + unusableFreeValues) := rfl
@[simp] theorem State.constructBuffers_rbMicro (s : State) : (s.constructBuffers).rbMicro = s.rbMicro := rfl
@[simp] theorem State.constructBuffers_adpMicro (s : State) : (s.constructBuffers).adpMicro = s.adpMicro := rfl
@[simp] theorem State.constructBuffers_free (s : State) : (s.constructBuffers).free = s.free + 2 * unusableFreeValues := rfl
@[simp] theorem State.constructBuffers_port (s : State) : (s.constructBuffers).port = s.port := rfl
@[simp] theorem State.constructBuffers_env (s : State) : (s.constructBuffers).env = s.env := rfl
@[simp] theorem State.constructBuffers_inputs (s : State) : (s.constructBuffers).inputs = s.inputs := rfl
@[simp] theorem State.constructBuffers_resp (s : State) : (s.constructBuffers).resp = s.resp := rfl
@[simp] theorem State.constructBuffers_calls (s : State) : (s.constructBuffers).calls = s.calls := rfl

@[simp] theorem State.register_cfg (s : State) : (s.register).cfg = s.cfg := rfl
@[simp] theorem State.register_rb (s : State) : (s.register).rb = s.rb := rfl
@[simp] theorem State.register_st (s : State) : (s.register).st = .ready := rfl
@[simp] theorem State.register_cfgPoll (s : State) : (s.register).cfgPoll = s.cfgPoll := rfl
@[simp] theorem State.register_cfgXtal (s : State) : (s.register).cfgXtal = s.cfgXtal := rfl
@[simp] theorem State.register_irqReg (s : State) : (s.register).irqReg = !s.cfgPoll := rfl
@[simp] theorem State.register_rxCount (s : State) : (s.register).rxCount = s.rxCount := rfl
@[simp] theorem State.register_txCount (s : State) : (s.register).txCount = s.txCount := rfl
@[simp] theorem State.register_rx (s : State) : (s.register).rx = s.rx := rfl
@[simp] theorem State.register_tx (s : State) : (s.register).tx = s.tx := rfl
@[simp] theorem State.register_rbMicro (s : State) : (s.register).rbMicro = s.rbMicro := rfl
@[simp] theorem State.register_adpMicro (s : State) : (s.register).adpMicro = s.adpMicro := rfl
@[simp] theorem State.register_free (s : State) : (s.register).free = s.free := rfl
@[simp] theorem State.register_port (s : State) : (s.register).port = s.port := rfl
@[simp] theorem State.register_env (s : State) : (s.register).env = s.env := rfl
@[simp] theorem State.register_inputs (s : State) : (s.register).inputs = s.inputs := rfl
@[simp] theorem State.register_resp (s : State) : (s.register).resp = s.resp := rfl
@[simp] theorem State.register_calls (s : State) : (s.register).calls = s.calls := rfl

@[simp] theorem State.clearOutputs_cfg (s : State) : (s.clearOutputs).cfg = s.cfg := rfl
@[simp] theorem State.clearOutputs_rb (s : State) : (s.clearOutputs).rb = s.rb := rfl
@[simp] theorem State.clearOutputs_st (s : State) : (s.clearOutputs).st = s.st := rfl
@[simp] theorem State.clearOutputs_cfgPoll (s : State) : (s.clearOutputs).cfgPoll = s.cfgPoll := rfl
@[simp] theorem State.clearOutputs_cfgXtal (s : State) : (s.clearOutputs).cfgXtal = s.cfgXtal := rfl
@[simp] theorem State.clearOutputs_irqReg (s : State) : (s.clearOutputs).irqReg = s.irqReg := rfl
@[simp] theorem State.clearOutputs_rxCount (s : State) : (s.clearOutputs).rxCount = s.rxCount := rfl
@[simp] theorem State.clearOutputs_txCount (s : State) : (s.clearOutputs).txCount = s.txCount := rfl
@[simp] theorem State.clearOutputs_rx (s : State) : (s.clearOutputs).rx = s.rx := rfl
@[simp] theorem State.clearOutputs_tx (s : State) : (s.clearOutputs).tx = s.tx := rfl
@[simp] theorem State.clearOutputs_rbMicro (s : State) : (s.clearOutputs).rbMicro = s.rbMicro := rfl
@[simp] theorem State.clearOutputs_adpMicro (s : State) : (s.clearOutputs).adpMicro = s.adpMicro := rfl
@[simp] theorem State.clearOutputs_free (s : State) : (s.clearOutputs).free = s.free := rfl
@[simp] theorem State.clearOutputs_port (s : State) : (s.clearOutputs).port = s.port := rfl
@[simp] theorem State.clearOutputs_env (s : State) : (s.clearOutputs).env = s.env := rfl
@[simp] theorem State.clearOutputs_inputs (s : State) : (s.clearOutputs).inputs = s.inputs := rfl
@[simp] theorem State.clearOutputs_resp (s : State) : (s.clearOutputs).resp = none := rfl
@[simp] theorem State.clearOutputs_calls (s : State) : (s.clearOutputs).calls = [] := rfl

@[simp] theorem State.withInputs_cfg (l : List Input) (s : State) : (s.withInputs l).cfg = s.cfg := rfl
@[simp] theorem State.withInputs_rb (l : List Input) (s : State) : (s.withInputs l).rb = s.rb := rfl
@[simp] theorem State.withInputs_st (l : List Input) (s : State) : (s.withInputs l).st = s.st := rfl
@[simp] theorem State.withInputs_cfgPoll (l : List Input) (s : State) : (s.withInputs l).cfgPoll = s.cfgPoll := rfl
@[simp] theorem State.withInputs_cfgXtal (l : List Input) (s : State) : (s.withInputs l).cfgXtal = s.cfgXtal := rfl
@[simp] theorem State.withInputs_irqReg (l : List Input) (s : State) : (s.withInputs l).irqReg = s.irqReg := rfl
@[simp] theorem State.withInputs_rxCount (l : List Input) (s : State) : (s.withInputs l).rxCount = s.rxCount := rfl
@[simp] theorem State.withInputs_txCount (l : List Input) (s : State) : (s.withInputs l).txCount = s.txCount := rfl
@[simp] theorem State.withInputs_rx (l : List Input) (s : State) : (s.withInputs l).rx = s.rx := rfl
@[simp] theorem State.withInputs_tx (l : List Input) (s : State) : (s.withInputs l).tx = s.tx := rfl
@[simp] theorem State.withInputs_rbMicro (l : List Input) (s : State) : (s.withInputs l).rbMicro = s.rbMicro := rfl
@[simp] theorem State.withInputs_adpMicro (l : List Input) (s : State) : (s.withInputs l).adpMicro = s.adpMicro := rfl
@[simp] theorem State.withInputs_free (l : List Input) (s : State) : (s.withInputs l).free = s.free := rfl
@[simp] theorem State.withInputs_port (l : List Input) (s : State) : (s.withInputs l).port = s.port := rfl
@[simp] theorem State.withInputs_env (l : List Input) (s : State) : (s.withInputs l).env = s.env := rfl
@[simp] theorem State.withInputs_inputs (l : List Input) (s : State) : (s.withInputs l).inputs = l := rfl
@[simp] theorem State.withInputs_resp (l : List Input) (s : State) : (s.withInputs l).resp = s.resp := rfl
@[simp] theorem State.withInputs_calls (l : List Input) (s : State) : (s.withInputs l).calls = s.calls := rfl

@[simp] theorem State.sample_cfg (r : Request) (l : List Input) (s : State) : (s.sample r l).cfg = s.cfg := rfl
@[simp] theorem State.sample_rb (r : Request) (l : List Input) (s : State) : (s.sample r l).rb = s.rb := rfl
@[simp] theorem State.sample_st (r : Request) (l : List Input) (s : State) : (s.sample r l).st = s.st := rfl
@[simp] theorem State.sample_cfgPoll (r : Request) (l : List Input) (s : State) : (s.sample r l).cfgPoll = s.cfgPoll := rfl
@[simp] theorem State.sample_cfgXtal (r : Request) (l : List Input) (s : State) : (s.sample r l).cfgXtal = s.cfgXtal := rfl
@[simp] theorem State.sample_irqReg (r : Request) (l : List Input) (s : State) : (s.sample r l).irqReg = s.irqReg := rfl
@[simp] theorem State.sample_rxCount (r : Request) (l : List Input) (s : State) : (s.sample r l).rxCount = s.rxCount := rfl
@[simp] theorem State.sample_txCount (r : Request) (l : List Input) (s : State) : (s.sample r l).txCount = s.txCount := rfl
@[simp] theorem State.sample_rx (r : Request) (l : List Input) (s : State) : (s.sample r l).rx = s.rx := rfl
@[simp] theorem State.sample_tx (r : Request) (l : List Input) (s : State) : (s.sample r l).tx = s.tx := rfl
@[simp] theorem State.sample_rbMicro (r : Request) (l : List Input) (s : State) : (s.sample r l).rbMicro = s.rbMicro := rfl
@[simp] theorem State.sample_adpMicro (r : Request) (l : List Input) (s : State) : (s.sample r l).adpMicro = s.adpMicro := rfl
@[simp] theorem State.sample_free (r : Request) (l : List Input) (s : State) : (s.sample r l).free = s.free := rfl
@[simp] theorem State.sample_port (r : Request) (l : List Input) (s : State) : (s.sample r l).port = r.port := rfl
@[simp] theorem State.sample_env (r : Request) (l : List Input) (s : State) : (s.sample r l).env = r.env := rfl
@[simp] theorem State.sample_inputs (r : Request) (l : List Input) (s : State) : (s.sample r l).inputs = l := rfl
@[simp] theorem State.sample_resp (r : Request) (l : List Input) (s : State) : (s.sample r l).resp = s.resp := rfl
@[simp] theorem State.sample_calls (r : Request) (l : List Input) (s : State) : (s.sample r l).calls = s.calls := rfl

@[simp] theorem State.withAtomic_cfg (a : Bool) (s : State) : (s.withAtomic a).cfg = { s.cfg with atomic := a } := rfl
@[simp] theorem State.withAtomic_rb (a : Bool) (s : State) : (s.withAtomic a).rb = s.rb := rfl
@[simp] theorem State.withAtomic_st (a : Bool) (s : State) : (s.withAtomic a).st = s.st := rfl
@[simp] theorem State.withAtomic_cfgPoll (a : Bool) (s : State) : (s.withAtomic a).cfgPoll = s.cfgPoll := rfl
@[simp] theorem State.withAtomic_cfgXtal (a : Bool) (s : State) : (s.withAtomic a).cfgXtal = s.cfgXtal := rfl
@[simp] theorem State.withAtomic_irqReg (a : Bool) (s : State) : (s.withAtomic a).irqReg = s.irqReg := rfl
@[simp] theorem State.withAtomic_rxCount (a : Bool) (s : State) : (s.withAtomic a).rxCount = s.rxCount := rfl
@[simp] theorem State.withAtomic_txCount (a : Bool) (s : State) : (s.withAtomic a).txCount = s.txCount := rfl
@[simp] theorem State.withAtomic_rx (a : Bool) (s : State) : (s.withAtomic a).rx = s.rx := rfl
@[simp] theorem State.withAtomic_tx (a : Bool) (s : State) : (s.withAtomic a).tx = s.tx := rfl
@[simp] theorem State.withAtomic_rbMicro (a : Bool) (s : State) : (s.withAtomic a).rbMicro = s.rbMicro := rfl
@[simp] theorem State.withAtomic_adpMicro (a : Bool) (s : State) : (s.withAtomic a).adpMicro = s.adpMicro := rfl
@[simp] theorem State.withAtomic_free (a : Bool) (s : State) : (s.withAtomic a).free = s.free := rfl
@[simp] theorem State.withAtomic_port (a : Bool) (s : State) : (s.withAtomic a).port = s.port := rfl
@[simp] theorem State.withAtomic_env (a : Bool) (s : State) : (s.withAtomic a).env = s.env := rfl
@[simp] theorem State.withAtomic_inputs (a : Bool) (s : State) : (s.withAtomic a).inputs = s.inputs := rfl
@[simp] theorem State.withAtomic_resp (a : Bool) (s : State) : (s.withAtomic a).resp = s.resp := rfl
@[simp] theorem State.withAtomic_calls (a : Bool) (s : State) : (s.withAtomic a).calls = s.calls := rfl

/-! ### Updates of one unit of the state -/

@[simp] theorem State.setBuf_cfg (u : UnitId) (b : RB) (s : State) : (s.setBuf u b).cfg = s.cfg := by cases u <;> rfl
@[simp] theorem State.setBuf_st (u : UnitId) (b : RB) (s : State) : (s.setBuf u b).st = s.st := by cases u <;> rfl
@[simp] theorem State.setBuf_cfgPoll (u : UnitId) (b : RB) (s : State) : (s.setBuf u b).cfgPoll = s.cfgPoll := by cases u <;> rfl
@[simp] theorem State.setBuf_cfgXtal (u : UnitId) (b : RB) (s : State) : (s.setBuf u b).cfgXtal = s.cfgXtal := by cases u <;> rfl
@[simp] theorem State.setBuf_irqReg (u : UnitId) (b : RB) (s : State) : (s.setBuf u b).irqReg = s.irqReg := by cases u <;> rfl
@[simp] theorem State.setBuf_rxCount (u : UnitId) (b : RB) (s : State) : (s.setBuf u b).rxCount = s.rxCount := by cases u <;> rfl
@[simp] theorem State.setBuf_txCount (u : UnitId) (b : RB) (s : State) : (s.setBuf u b).txCount = s.txCount := by cases u <;> rfl
@[simp] theorem State.setBuf_tx (u : UnitId) (b : RB) (s : State) : (s.setBuf u b).tx = s.tx := by cases u <;> rfl
@[simp] theorem State.setBuf_rbMicro (u : UnitId) (b : RB) (s : State) : (s.setBuf u b).rbMicro = s.rbMicro := by cases u <;> rfl
@[simp] theorem State.setBuf_adpMicro (u : UnitId) (b : RB) (s : State) : (s.setBuf u b).adpMicro = s.adpMicro := by cases u <;> rfl
@[simp] theorem State.setBuf_free (u : UnitId) (b : RB) (s : State) : (s.setBuf u b).free = s.free := by cases u <;> rfl
@[simp] theorem State.setBuf_port (u : UnitId) (b : RB) (s : State) : (s.setBuf u b).port = s.port := by cases u <;> rfl
@[simp] theorem State.setBuf_env (u : UnitId) (b : RB) (s : State) : (s.setBuf u b).env = s.env := by cases u <;> rfl
@[simp] theorem State.setBuf_inputs (u : UnitId) (b : RB) (s : State) : (s.setBuf u b).inputs = s.inputs := by cases u <;> rfl
@[simp] theorem State.setBuf_resp (u : UnitId) (b : RB) (s : State) : (s.setBuf u b).resp = s.resp := by cases u <;> rfl
@[simp] theorem State.setBuf_calls (u : UnitId) (b : RB) (s : State) : (s.setBuf u b).calls = s.calls := by cases u <;> rfl
@[simp] theorem State.setBuf_rb_rb (b : RB) (s : State) : (s.setBuf .rb b).rb = b := rfl
@[simp] theorem State.setBuf_rb_rx (b : RB) (s : State) : (s.setBuf .rb b).rx = s.rx := rfl
@[simp] theorem State.setBuf_adp_rb (b : RB) (s : State) : (s.setBuf .adp b).rb = s.rb := rfl
@[simp] theorem State.setBuf_adp_rx (b : RB) (s : State) : (s.setBuf .adp b).rx = b := rfl

@[simp] theorem State.setMicro_cfg (u : UnitId) (m : Micro) (s : State) : (s.setMicro u m).cfg = s.cfg := by cases u <;> rfl
@[simp] theorem State.setMicro_rb (u : UnitId) (m : Micro) (s : State) : (s.setMicro u m).rb = s.rb := by cases u <;> rfl
@[simp] theorem State.setMicro_st (u : UnitId) (m : Micro) (s : State) : (s.setMicro u m).st = s.st := by cases u <;> rfl
@[simp] theorem State.setMicro_cfgPoll (u : UnitId) (m : Micro) (s : State) : (s.setMicro u m).cfgPoll = s.cfgPoll := by cases u <;> rfl
@[simp] theorem State.setMicro_cfgXtal (u : UnitId) (m : Micro) (s : State) : (s.setMicro u m).cfgXtal = s.cfgXtal := by cases u <;> rfl
@[simp] theorem State.setMicro_irqReg (u : UnitId) (m : Micro) (s : State) : (s.setMicro u m).irqReg = s.irqReg := by cases u <;> rfl
@[simp] theorem State.setMicro_rxCount (u : UnitId) (m : Micro) (s : State) : (s.setMicro u m).rxCount = s.rxCount := by cases u <;> rfl
@[simp] theorem State.setMicro_txCount (u : UnitId) (m : Micro) (s : State) : (s.setMicro u m).txCount = s.txCount := by cases u <;> rfl
@[simp] theorem State.setMicro_rx (u : UnitId) (m : Micro) (s : State) : (s.setMicro u m).rx = s.rx := by cases u <;> rfl
@[simp] theorem State.setMicro_tx (u : UnitId) (m : Micro) (s : State) : (s.setMicro u m).tx = s.tx := by cases u <;> rfl
@[simp] theorem State.setMicro_free (u : UnitId) (m : Micro) (s : State) : (s.setMicro u m).free = s.free := by cases u <;> rfl
@[simp] theorem State.setMicro_port (u : UnitId) (m : Micro) (s : State) : (s.setMicro u m).port = s.port := by cases u <;> rfl
@[simp] theorem State.setMicro_env (u : UnitId) (m : Micro) (s : State) : (s.setMicro u m).env = s.env := by cases u <;> rfl
@[simp] theorem State.setMicro_inputs (u : UnitId) (m : Micro) (s : State) : (s.setMicro u m).inputs = s.inputs := by cases u <;> rfl
@[simp] theorem State.setMicro_resp (u : UnitId) (m : Micro) (s : State) : (s.setMicro u m).resp = s.resp := by cases u <;> rfl
@[simp] theorem State.setMicro_calls (u : UnitId) (m : Micro) (s : State) : (s.setMicro u m).calls = s.calls := by cases u <;> rfl
@[simp] theorem State.setMicro_rb_rbMicro (m : Micro) (s : State) : (s.setMicro .rb m).rbMicro = m := rfl
@[simp] theorem State.setMicro_rb_adpMicro (m : Micro) (s : State) : (s.setMicro .rb m).adpMicro = s.adpMicro := rfl
@[simp] theorem State.setMicro_adp_rbMicro (m : Micro) (s : State) : (s.setMicro .adp m).rbMicro = s.rbMicro := rfl
@[simp] theorem State.setMicro_adp_adpMicro (m : Micro) (s : State) : (s.setMicro .adp m).adpMicro = m := rfl

@[simp] theorem State.setBuf_buf (u : UnitId) (b : RB) (s : State) : (s.setBuf u b).buf u = b := by cases u <;> rfl
@[simp] theorem State.setBuf_micro (u v : UnitId) (b : RB) (s : State) : (s.setBuf u b).micro v = s.micro v := by cases u <;> cases v <;> rfl
@[simp] theorem State.setBuf_cap (u v : UnitId) (b : RB) (s : State) : (s.setBuf u b).cap v = s.cap v := by cases u <;> cases v <;> rfl
@[simp] theorem State.setBuf_setBuf (u : UnitId) (b d : RB) (s : State) : (s.setBuf u b).setBuf u d = s.setBuf u d := by cases u <;> rfl
@[simp] theorem State.setBuf_self (u : UnitId) (s : State) : s.setBuf u (s.buf u) = s := by cases u <;> rfl
@[simp] theorem State.setMicro_micro (u : UnitId) (m : Micro) (s : State) : (s.setMicro u m).micro u = m := by cases u <;> rfl
@[simp] theorem State.setMicro_buf (u v : UnitId) (m : Micro) (s : State) : (s.setMicro u m).buf v = s.buf v := by cases u <;> cases v <;> rfl
@[simp] theorem State.setMicro_cap (u v : UnitId) (m : Micro) (s : State) : (s.setMicro u m).cap v = s.cap v := by cases u <;> cases v <;> rfl
@[simp] theorem State.setMicro_setMicro (u : UnitId) (m k : Micro) (s : State) : (s.setMicro u m).setMicro u k = s.setMicro u k := by cases u <;> rfl
@[simp] theorem State.setMicro_self (u : UnitId) (s : State) : s.setMicro u (s.micro u) = s := by cases u <;> rfl

@[simp] theorem State.setRing_cfg (k : RingId) (b : RB) (s : State) : (s.setRing k b).cfg = s.cfg := by cases k <;> rfl
@[simp] theorem State.setRing_st (k : RingId) (b : RB) (s : State) : (s.setRing k b).st = s.st := by cases k <;> rfl
@[simp] theorem State.setRing_cfgPoll (k : RingId) (b : RB) (s : State) : (s.setRing k b).cfgPoll = s.cfgPoll := by cases k <;> rfl
@[simp] theorem State.setRing_cfgXtal (k : RingId) (b : RB) (s : State) : (s.setRing k b).cfgXtal = s.cfgXtal := by cases k <;> rfl
@[simp] theorem State.setRing_irqReg (k : RingId) (b : RB) (s : State) : (s.setRing k b).irqReg = s.irqReg := by cases k <;> rfl
@[simp] theorem State.setRing_rxCount (k : RingId) (b : RB) (s : State) : (s.setRing k b).rxCount = s.rxCount := by cases k <;> rfl
@[simp] theorem State.setRing_txCount (k : RingId) (b : RB) (s : State) : (s.setRing k b).txCount = s.txCount := by cases k <;> rfl
@[simp] theorem State.setRing_rbMicro (k : RingId) (b : RB) (s : State) : (s.setRing k b).rbMicro = s.rbMicro := by cases k <;> rfl
@[simp] theorem State.setRing_adpMicro (k : RingId) (b : RB) (s : State) : (s.setRing k b).adpMicro = s.adpMicro := by cases k <;> rfl
@[simp] theorem State.setRing_free (k : RingId) (b : RB) (s : State) : (s.setRing k b).free = s.free := by cases k <;> rfl
@[simp] theorem State.setRing_port (k : RingId) (b : RB) (s : State) : (s.setRing k b).port = s.port := by cases k <;> rfl
@[simp] theorem State.setRing_env (k : RingId) (b : RB) (s : State) : (s.setRing k b).env = s.env := by cases k <;> rfl
@[simp] theorem State.setRing_inputs (k : RingId) (b : RB) (s : State) : (s.setRing k b).inputs = s.inputs := by cases k <;> rfl
@[simp] theorem State.setRing_resp (k : RingId) (b : RB) (s : State) : (s.setRing k b).resp = s.resp := by cases k <;> rfl
@[simp] theorem State.setRing_calls (k : RingId) (b : RB) (s : State) : (s.setRing k b).calls = s.calls := by cases k <;> rfl
@[simp] theorem State.setRing_rb_rb (b : RB) (s : State) : (s.setRing .rb b).rb = b := rfl
@[simp] theorem State.setRing_rb_rx (b : RB) (s : State) : (s.setRing .rb b).rx = s.rx := rfl
@[simp] theorem State.setRing_rb_tx (b : RB) (s : State) : (s.setRing .rb b).tx = s.tx := rfl
@[simp] theorem State.setRing_rx_rb (b : RB) (s : State) : (s.setRing .rx b).rb = s.rb := rfl
@[simp] theorem State.setRing_rx_rx (b : RB) (s : State) : (s.setRing .rx b).rx = b := rfl
@[simp] theorem State.setRing_rx_tx (b : RB) (s : State) : (s.setRing .rx b).tx = s.tx := rfl
@[simp] theorem State.setRing_tx_rb (b : RB) (s : State) : (s.setRing .tx b).rb = s.rb := rfl
@[simp] theorem State.setRing_tx_rx (b : RB) (s : State) : (s.setRing .tx b).rx = s.rx := rfl
@[simp] theorem State.setRing_tx_tx (b : RB) (s : State) : (s.setRing .tx b).tx = b := rfl
@[simp] theorem State.setRing_ring (k : RingId) (b : RB) (s : State) : (s.setRing k b).ring k = b := by cases k <;> rfl
@[simp] theorem State.setRing_self (k : RingId) (s : State) : s.setRing k (s.ring k) = s := by cases k <;> rfl
@[simp] theorem State.setRing_micro (k : RingId) (b : RB) (s : State) (v : UnitId) : (s.setRing k b).micro v = s.micro v := by cases k <;> cases v <;> rfl
@[simp] theorem State.setRing_cap (k : RingId) (b : RB) (s : State) (v : UnitId) : (s.setRing k b).cap v = s.cap v := by cases k <;> cases v <;> rfl
@[simp] theorem State.setRing_ringCap (k : RingId) (b : RB) (s : State) (j : RingId) : (s.setRing k b).ringCap j = s.ringCap j := by cases k <;> cases j <;> rfl

/-- The buffer a unit reads is one of the three. -/
@[simp] theorem State.ring_ringOf (u : UnitId) (s : State) : s.ring (ringOf u) = s.buf u := by cases u <;> rfl

@[simp] theorem State.ringCap_ringOf (u : UnitId) (s : State) : s.ringCap (ringOf u) = s.cap u := by cases u <;> rfl

/-- A unit writes its buffer as one of the three. -/
theorem State.updBuf_eq (u : UnitId) (f : RB → RB) (s : State) :
    s.updBuf u f = s.setRing (ringOf u) (f (s.ring (ringOf u))) := by
  cases u <;> rfl

@[simp] theorem State.updBuf_cfg (u : UnitId) (g : RB → RB) (s : State) : (s.updBuf u g).cfg = s.cfg := by cases u <;> rfl
@[simp] theorem State.updBuf_st (u : UnitId) (g : RB → RB) (s : State) : (s.updBuf u g).st = s.st := by cases u <;> rfl
@[simp] theorem State.updBuf_cfgPoll (u : UnitId) (g : RB → RB) (s : State) : (s.updBuf u g).cfgPoll = s.cfgPoll := by cases u <;> rfl
@[simp] theorem State.updBuf_cfgXtal (u : UnitId) (g : RB → RB) (s : State) : (s.updBuf u g).cfgXtal = s.cfgXtal := by cases u <;> rfl
@[simp] theorem State.updBuf_irqReg (u : UnitId) (g : RB → RB) (s : State) : (s.updBuf u g).irqReg = s.irqReg := by cases u <;> rfl
@[simp] theorem State.updBuf_rxCount (u : UnitId) (g : RB → RB) (s : State) : (s.updBuf u g).rxCount = s.rxCount := by cases u <;> rfl
@[simp] theorem State.updBuf_txCount (u : UnitId) (g : RB → RB) (s : State) : (s.updBuf u g).txCount = s.txCount := by cases u <;> rfl
@[simp] theorem State.updBuf_tx (u : UnitId) (g : RB → RB) (s : State) : (s.updBuf u g).tx = s.tx := by cases u <;> rfl
@[simp] theorem State.updBuf_rbMicro (u : UnitId) (g : RB → RB) (s : State) : (s.updBuf u g).rbMicro = s.rbMicro := by cases u <;> rfl
@[simp] theorem State.updBuf_adpMicro (u : UnitId) (g : RB → RB) (s : State) : (s.updBuf u g).adpMicro = s.adpMicro := by cases u <;> rfl
@[simp] theorem State.updBuf_free (u : UnitId) (g : RB → RB) (s : State) : (s.updBuf u g).free = s.free := by cases u <;> rfl
@[simp] theorem State.updBuf_port (u : UnitId) (g : RB → RB) (s : State) : (s.updBuf u g).port = s.port := by cases u <;> rfl
@[simp] theorem State.updBuf_env (u : UnitId) (g : RB → RB) (s : State) : (s.updBuf u g).env = s.env := by cases u <;> rfl
@[simp] theorem State.updBuf_inputs (u : UnitId) (g : RB → RB) (s : State) : (s.updBuf u g).inputs = s.inputs := by cases u <;> rfl
@[simp] theorem State.updBuf_resp (u : UnitId) (g : RB → RB) (s : State) : (s.updBuf u g).resp = s.resp := by cases u <;> rfl
@[simp] theorem State.updBuf_calls (u : UnitId) (g : RB → RB) (s : State) : (s.updBuf u g).calls = s.calls := by cases u <;> rfl
@[simp] theorem State.updBuf_buf (u : UnitId) (g : RB → RB) (s : State) : (s.updBuf u g).buf u = g (s.buf u) := by cases u <;> rfl

@[simp] theorem State.goOn_cfg (u : UnitId) (l : List MicroAct) (s : State) : (s.goOn u l).cfg = s.cfg := by cases u <;> rfl
@[simp] theorem State.goOn_rb (u : UnitId) (l : List MicroAct) (s : State) : (s.goOn u l).rb = s.rb := by cases u <;> rfl
@[simp] theorem State.goOn_st (u : UnitId) (l : List MicroAct) (s : State) : (s.goOn u l).st = s.st := by cases u <;> rfl
@[simp] theorem State.goOn_cfgPoll (u : UnitId) (l : List MicroAct) (s : State) : (s.goOn u l).cfgPoll = s.cfgPoll := by cases u <;> rfl
@[simp] theorem State.goOn_cfgXtal (u : UnitId) (l : List MicroAct) (s : State) : (s.goOn u l).cfgXtal = s.cfgXtal := by cases u <;> rfl
@[simp] theorem State.goOn_irqReg (u : UnitId) (l : List MicroAct) (s : State) : (s.goOn u l).irqReg = s.irqReg := by cases u <;> rfl
@[simp] theorem State.goOn_rxCount (u : UnitId) (l : List MicroAct) (s : State) : (s.goOn u l).rxCount = s.rxCount := by cases u <;> rfl
@[simp] theorem State.goOn_txCount (u : UnitId) (l : List MicroAct) (s : State) : (s.goOn u l).txCount = s.txCount := by cases u <;> rfl
@[simp] theorem State.goOn_rx (u : UnitId) (l : List MicroAct) (s : State) : (s.goOn u l).rx = s.rx := by cases u <;> rfl
@[simp] theorem State.goOn_tx (u : UnitId) (l : List MicroAct) (s : State) : (s.goOn u l).tx = s.tx := by cases u <;> rfl
@[simp] theorem State.goOn_free (u : UnitId) (l : List MicroAct) (s : State) : (s.goOn u l).free = s.free := by cases u <;> rfl
@[simp] theorem State.goOn_port (u : UnitId) (l : List MicroAct) (s : State) : (s.goOn u l).port = s.port := by cases u <;> rfl
@[simp] theorem State.goOn_env (u : UnitId) (l : List MicroAct) (s : State) : (s.goOn u l).env = s.env := by cases u <;> rfl
@[simp] theorem State.goOn_inputs (u : UnitId) (l : List MicroAct) (s : State) : (s.goOn u l).inputs = s.inputs := by cases u <;> rfl
@[simp] theorem State.goOn_resp (u : UnitId) (l : List MicroAct) (s : State) : (s.goOn u l).resp = s.resp := by cases u <;> rfl
@[simp] theorem State.goOn_calls (u : UnitId) (l : List MicroAct) (s : State) : (s.goOn u l).calls = s.calls := by cases u <;> rfl
@[simp] theorem State.goOn_micro (u : UnitId) (l : List MicroAct) (s : State) : (s.goOn u l).micro u = ⟨(s.micro u).latch, l⟩ := by cases u <;> rfl
@[simp] theorem State.goOn_buf (u v : UnitId) (l : List MicroAct) (s : State) : (s.goOn u l).buf v = s.buf v := by cases u <;> cases v <;> rfl

@[simp] theorem State.effect_cfg (u : UnitId) (a : MicroAct) (s : State) : (s.effect u a).cfg = s.cfg := by
  cases a <;> first | rfl | (cases u <;> rfl) | (rename_i k _; cases k <;> rfl)

@[simp] theorem State.effect_rbMicro (u : UnitId) (a : MicroAct) (s : State) : (s.effect u a).rbMicro = s.rbMicro := by
  cases a <;> first | rfl | (cases u <;> rfl) | (rename_i k _; cases k <;> rfl)

@[simp] theorem State.effect_adpMicro (u : UnitId) (a : MicroAct) (s : State) : (s.effect u a).adpMicro = s.adpMicro := by
  cases a <;> first | rfl | (cases u <;> rfl) | (rename_i k _; cases k <;> rfl)

@[simp] theorem State.effect_free (u : UnitId) (a : MicroAct) (s : State) : (s.effect u a).free = s.free := by
  cases a <;> first | rfl | (cases u <;> rfl) | (rename_i k _; cases k <;> rfl)

@[simp] theorem State.effect_port (u : UnitId) (a : MicroAct) (s : State) : (s.effect u a).port = s.port := by
  cases a <;> first | rfl | (cases u <;> rfl) | (rename_i k _; cases k <;> rfl)

@[simp] theorem State.effect_env (u : UnitId) (a : MicroAct) (s : State) : (s.effect u a).env = s.env := by
  cases a <;> first | rfl | (cases u <;> rfl) | (rename_i k _; cases k <;> rfl)

@[simp] theorem State.effect_inputs (u : UnitId) (a : MicroAct) (s : State) : (s.effect u a).inputs = s.inputs := by
  cases a <;> first | rfl | (cases u <;> rfl) | (rename_i k _; cases k <;> rfl)

@[simp] theorem State.effect_resp (u : UnitId) (a : MicroAct) (s : State) : (s.effect u a).resp = s.resp := by
  cases a <;> first | rfl | (cases u <;> rfl) | (rename_i k _; cases k <;> rfl)

@[simp] theorem State.withResp_ring (r : Response) (s : State) (j : RingId) : (s.withResp r).ring j = s.ring j := by cases j <;> rfl
@[simp] theorem State.withResp_buf (r : Response) (s : State) (v : UnitId) : (s.withResp r).buf v = s.buf v := by cases v <;> rfl
@[simp] theorem State.withResp_micro (r : Response) (s : State) (v : UnitId) : (s.withResp r).micro v = s.micro v := by cases v <;> rfl
@[simp] theorem State.withResp_cap (r : Response) (s : State) (v : UnitId) : (s.withResp r).cap v = s.cap v := by cases v <;> rfl
@[simp] theorem State.useFree_ring (n : Nat) (s : State) (j : RingId) : (s.useFree n).ring j = s.ring j := by cases j <;> rfl
@[simp] theorem State.useFree_buf (n : Nat) (s : State) (v : UnitId) : (s.useFree n).buf v = s.buf v := by cases v <;> rfl
@[simp] theorem State.useFree_micro (n : Nat) (s : State) (v : UnitId) : (s.useFree n).micro v = s.micro v := by cases v <;> rfl
@[simp] theorem State.useFree_cap (n : Nat) (s : State) (v : UnitId) : (s.useFree n).cap v = s.cap v := by cases v <;> rfl
@[simp] theorem State.call_ring (k : ChipCall) (s : State) (j : RingId) : (s.call k).ring j = s.ring j := by cases j <;> rfl
@[simp] theorem State.call_buf (k : ChipCall) (s : State) (v : UnitId) : (s.call k).buf v = s.buf v := by cases v <;> rfl
@[simp] theorem State.call_micro (k : ChipCall) (s : State) (v : UnitId) : (s.call k).micro v = s.micro v := by cases v <;> rfl
@[simp] theorem State.call_cap (k : ChipCall) (s : State) (v : UnitId) : (s.call k).cap v = s.cap v := by cases v <;> rfl
@[simp] theorem State.unregister_ring (s : State) (j : RingId) : (s.unregister).ring j = s.ring j := by cases j <;> rfl
@[simp] theorem State.unregister_buf (s : State) (v : UnitId) : (s.unregister).buf v = s.buf v := by cases v <;> rfl
@[simp] theorem State.unregister_micro (s : State) (v : UnitId) : (s.unregister).micro v = s.micro v := by cases v <;> rfl
@[simp] theorem State.unregister_cap (s : State) (v : UnitId) : (s.unregister).cap v = s.cap v := by cases v <;> rfl
@[simp] theorem State.register_ring (s : State) (j : RingId) : (s.register).ring j = s.ring j := by cases j <;> rfl
@[simp] theorem State.register_buf (s : State) (v : UnitId) : (s.register).buf v = s.buf v := by cases v <;> rfl
@[simp] theorem State.register_micro (s : State) (v : UnitId) : (s.register).micro v = s.micro v := by cases v <;> rfl
@[simp] theorem State.register_cap (s : State) (v : UnitId) : (s.register).cap v = s.cap v := by cases v <;> rfl
@[simp] theorem State.clearOutputs_ring (s : State) (j : RingId) : (s.clearOutputs).ring j = s.ring j := by cases j <;> rfl
@[simp] theorem State.clearOutputs_buf (s : State) (v : UnitId) : (s.clearOutputs).buf v = s.buf v := by cases v <;> rfl
@[simp] theorem State.clearOutputs_micro (s : State) (v : UnitId) : (s.clearOutputs).micro v = s.micro v := by cases v <;> rfl
@[simp] theorem State.clearOutputs_cap (s : State) (v : UnitId) : (s.clearOutputs).cap v = s.cap v := by cases v <;> rfl
@[simp] theorem State.withInputs_ring (l : List Input) (s : State) (j : RingId) : (s.withInputs l).ring j = s.ring j := by cases j <;> rfl
@[simp] theorem State.withInputs_buf (l : List Input) (s : State) (v : UnitId) : (s.withInputs l).buf v = s.buf v := by cases v <;> rfl
@[simp] theorem State.withInputs_micro (l : List Input) (s : State) (v : UnitId) : (s.withInputs l).micro v = s.micro v := by cases v <;> rfl
@[simp] theorem State.withInputs_cap (l : List Input) (s : State) (v : UnitId) : (s.withInputs l).cap v = s.cap v := by cases v <;> rfl
@[simp] theorem State.sample_ring (r : Request) (l : List Input) (s : State) (j : RingId) : (s.sample r l).ring j = s.ring j := by cases j <;> rfl
@[simp] theorem State.sample_buf (r : Request) (l : List Input) (s : State) (v : UnitId) : (s.sample r l).buf v = s.buf v := by cases v <;> rfl
@[simp] theorem State.sample_micro (r : Request) (l : List Input) (s : State) (v : UnitId) : (s.sample r l).micro v = s.micro v := by cases v <;> rfl
@[simp] theorem State.sample_cap (r : Request) (l : List Input) (s : State) (v : UnitId) : (s.sample r l).cap v = s.cap v := by cases v <;> rfl
@[simp] theorem State.withAtomic_ring (a : Bool) (s : State) (j : RingId) : (s.withAtomic a).ring j = s.ring j := by cases j <;> rfl
@[simp] theorem State.withAtomic_buf (a : Bool) (s : State) (v : UnitId) : (s.withAtomic a).buf v = s.buf v := by cases v <;> rfl
@[simp] theorem State.withAtomic_micro (a : Bool) (s : State) (v : UnitId) : (s.withAtomic a).micro v = s.micro v := by cases v <;> rfl
@[simp] theorem State.withAtomic_cap (a : Bool) (s : State) (v : UnitId) : (s.withAtomic a).cap v = s.cap v := by cases v <;> rfl

/-! ### Updates of a ring buffer -/

@[simp] theorem RB.store_mem (f : Frame) (t : Timestamp) (b : RB) : (b.store f t).mem = Memory.write b.mem b.head ⟨f, t⟩ := rfl
@[simp] theorem RB.store_head (f : Frame) (t : Timestamp) (b : RB) : (b.store f t).head = b.head := rfl
@[simp] theorem RB.store_tail (f : Frame) (t : Timestamp) (b : RB) : (b.store f t).tail = b.tail := rfl
@[simp] theorem RB.store_full (f : Frame) (t : Timestamp) (b : RB) : (b.store f t).full = b.full := rfl
@[simp] theorem RB.store_puts (f : Frame) (t : Timestamp) (b : RB) : (b.store f t).puts = b.puts := rfl
@[simp] theorem RB.store_gets (f : Frame) (t : Timestamp) (b : RB) : (b.store f t).gets = b.gets := rfl
@[simp] theorem RB.store_ovf (f : Frame) (t : Timestamp) (b : RB) : (b.store f t).ovf = b.ovf := rfl
@[simp] theorem RB.store_hwm (f : Frame) (t : Timestamp) (b : RB) : (b.store f t).hwm = b.hwm := rfl
@[simp] theorem RB.store_usable (f : Frame) (t : Timestamp) (b : RB) : (b.store f t).usable = b.usable := rfl

@[simp] theorem RB.advanceHead_mem (c : Nat) (b : RB) : (b.advanceHead c).mem = b.mem := rfl
@[simp] theorem RB.advanceHead_head (c : Nat) (b : RB) : (b.advanceHead c).head = inc c b.head := rfl
@[simp] theorem RB.advanceHead_tail (c : Nat) (b : RB) : (b.advanceHead c).tail = b.tail := rfl
@[simp] theorem RB.advanceHead_full (c : Nat) (b : RB) : (b.advanceHead c).full = b.full := rfl
@[simp] theorem RB.advanceHead_puts (c : Nat) (b : RB) : (b.advanceHead c).puts = b.puts := rfl
@[simp] theorem RB.advanceHead_gets (c : Nat) (b : RB) : (b.advanceHead c).gets = b.gets := rfl
@[simp] theorem RB.advanceHead_ovf (c : Nat) (b : RB) : (b.advanceHead c).ovf = b.ovf := rfl
@[simp] theorem RB.advanceHead_hwm (c : Nat) (b : RB) : (b.advanceHead c).hwm = b.hwm := rfl
@[simp] theorem RB.advanceHead_usable (c : Nat) (b : RB) : (b.advanceHead c).usable = b.usable := rfl

@[simp] theorem RB.recomputeFull_mem (b : RB) : (b.recomputeFull).mem = b.mem := rfl
@[simp] theorem RB.recomputeFull_head (b : RB) : (b.recomputeFull).head = b.head := rfl
@[simp] theorem RB.recomputeFull_tail (b : RB) : (b.recomputeFull).tail = b.tail := rfl
@[simp] theorem RB.recomputeFull_full (b : RB) : (b.recomputeFull).full = decide (b.head = b.tail) := rfl
@[simp] theorem RB.recomputeFull_puts (b : RB) : (b.recomputeFull).puts = b.puts := rfl
@[simp] theorem RB.recomputeFull_gets (b : RB) : (b.recomputeFull).gets = b.gets := rfl
@[simp] theorem RB.recomputeFull_ovf (b : RB) : (b.recomputeFull).ovf = b.ovf := rfl
@[simp] theorem RB.recomputeFull_hwm (b : RB) : (b.recomputeFull).hwm = b.hwm := rfl
@[simp] theorem RB.recomputeFull_usable (b : RB) : (b.recomputeFull).usable = b.usable := rfl

@[simp] theorem RB.countPut_mem (w : Nat) (b : RB) : (b.countPut w).mem = b.mem := rfl
@[simp] theorem RB.countPut_head (w : Nat) (b : RB) : (b.countPut w).head = b.head := rfl
@[simp] theorem RB.countPut_tail (w : Nat) (b : RB) : (b.countPut w).tail = b.tail := rfl
@[simp] theorem RB.countPut_full (w : Nat) (b : RB) : (b.countPut w).full = b.full := rfl
@[simp] theorem RB.countPut_puts (w : Nat) (b : RB) : (b.countPut w).puts = wrap w (b.puts + 1) := rfl
@[simp] theorem RB.countPut_gets (w : Nat) (b : RB) : (b.countPut w).gets = b.gets := rfl
@[simp] theorem RB.countPut_ovf (w : Nat) (b : RB) : (b.countPut w).ovf = b.ovf := rfl
@[simp] theorem RB.countPut_hwm (w : Nat) (b : RB) : (b.countPut w).hwm = b.hwm := rfl
@[simp] theorem RB.countPut_usable (w : Nat) (b : RB) : (b.countPut w).usable = b.usable := rfl

@[simp] theorem RB.clearFull_mem (b : RB) : (b.clearFull).mem = b.mem := rfl
@[simp] theorem RB.clearFull_head (b : RB) : (b.clearFull).head = b.head := rfl
@[simp] theorem RB.clearFull_tail (b : RB) : (b.clearFull).tail = b.tail := rfl
@[simp] theorem RB.clearFull_full (b : RB) : (b.clearFull).full = false := rfl
@[simp] theorem RB.clearFull_puts (b : RB) : (b.clearFull).puts = b.puts := rfl
@[simp] theorem RB.clearFull_gets (b : RB) : (b.clearFull).gets = b.gets := rfl
@[simp] theorem RB.clearFull_ovf (b : RB) : (b.clearFull).ovf = b.ovf := rfl
@[simp] theorem RB.clearFull_hwm (b : RB) : (b.clearFull).hwm = b.hwm := rfl
@[simp] theorem RB.clearFull_usable (b : RB) : (b.clearFull).usable = b.usable := rfl

@[simp] theorem RB.advanceTail_mem (c : Nat) (b : RB) : (b.advanceTail c).mem = b.mem := rfl
@[simp] theorem RB.advanceTail_head (c : Nat) (b : RB) : (b.advanceTail c).head = b.head := rfl
@[simp] theorem RB.advanceTail_tail (c : Nat) (b : RB) : (b.advanceTail c).tail = inc c b.tail := rfl
@[simp] theorem RB.advanceTail_full (c : Nat) (b : RB) : (b.advanceTail c).full = b.full := rfl
@[simp] theorem RB.advanceTail_puts (c : Nat) (b : RB) : (b.advanceTail c).puts = b.puts := rfl
@[simp] theorem RB.advanceTail_gets (c : Nat) (b : RB) : (b.advanceTail c).gets = b.gets := rfl
@[simp] theorem RB.advanceTail_ovf (c : Nat) (b : RB) : (b.advanceTail c).ovf = b.ovf := rfl
@[simp] theorem RB.advanceTail_hwm (c : Nat) (b : RB) : (b.advanceTail c).hwm = b.hwm := rfl
@[simp] theorem RB.advanceTail_usable (c : Nat) (b : RB) : (b.advanceTail c).usable = b.usable := rfl

@[simp] theorem RB.countGet_mem (w : Nat) (b : RB) : (b.countGet w).mem = b.mem := rfl
@[simp] theorem RB.countGet_head (w : Nat) (b : RB) : (b.countGet w).head = b.head := rfl
@[simp] theorem RB.countGet_tail (w : Nat) (b : RB) : (b.countGet w).tail = b.tail := rfl
@[simp] theorem RB.countGet_full (w : Nat) (b : RB) : (b.countGet w).full = b.full := rfl
@[simp] theorem RB.countGet_puts (w : Nat) (b : RB) : (b.countGet w).puts = b.puts := rfl
@[simp] theorem RB.countGet_gets (w : Nat) (b : RB) : (b.countGet w).gets = wrap w (b.gets + 1) := rfl
@[simp] theorem RB.countGet_ovf (w : Nat) (b : RB) : (b.countGet w).ovf = b.ovf := rfl
@[simp] theorem RB.countGet_hwm (w : Nat) (b : RB) : (b.countGet w).hwm = b.hwm := rfl
@[simp] theorem RB.countGet_usable (w : Nat) (b : RB) : (b.countGet w).usable = b.usable := rfl

@[simp] theorem RB.zeroHead_mem (b : RB) : (b.zeroHead).mem = b.mem := rfl
@[simp] theorem RB.zeroHead_head (b : RB) : (b.zeroHead).head = 0 := rfl
@[simp] theorem RB.zeroHead_tail (b : RB) : (b.zeroHead).tail = b.tail := rfl
@[simp] theorem RB.zeroHead_full (b : RB) : (b.zeroHead).full = b.full := rfl
@[simp] theorem RB.zeroHead_puts (b : RB) : (b.zeroHead).puts = b.puts := rfl
@[simp] theorem RB.zeroHead_gets (b : RB) : (b.zeroHead).gets = b.gets := rfl
@[simp] theorem RB.zeroHead_ovf (b : RB) : (b.zeroHead).ovf = b.ovf := rfl
@[simp] theorem RB.zeroHead_hwm (b : RB) : (b.zeroHead).hwm = b.hwm := rfl
@[simp] theorem RB.zeroHead_usable (b : RB) : (b.zeroHead).usable = b.usable := rfl

@[simp] theorem RB.zeroTail_mem (b : RB) : (b.zeroTail).mem = b.mem := rfl
@[simp] theorem RB.zeroTail_head (b : RB) : (b.zeroTail).head = b.head := rfl
@[simp] theorem RB.zeroTail_tail (b : RB) : (b.zeroTail).tail = 0 := rfl
@[simp] theorem RB.zeroTail_full (b : RB) : (b.zeroTail).full = b.full := rfl
@[simp] theorem RB.zeroTail_puts (b : RB) : (b.zeroTail).puts = b.puts := rfl
@[simp] theorem RB.zeroTail_gets (b : RB) : (b.zeroTail).gets = b.gets := rfl
@[simp] theorem RB.zeroTail_ovf (b : RB) : (b.zeroTail).ovf = b.ovf := rfl
@[simp] theorem RB.zeroTail_hwm (b : RB) : (b.zeroTail).hwm = b.hwm := rfl
@[simp] theorem RB.zeroTail_usable (b : RB) : (b.zeroTail).usable = b.usable := rfl

@[simp] theorem RB.zeroPuts_mem (b : RB) : (b.zeroPuts).mem = b.mem := rfl
@[simp] theorem RB.zeroPuts_head (b : RB) : (b.zeroPuts).head = b.head := rfl
@[simp] theorem RB.zeroPuts_tail (b : RB) : (b.zeroPuts).tail = b.tail := rfl
@[simp] theorem RB.zeroPuts_full (b : RB) : (b.zeroPuts).full = b.full := rfl
@[simp] theorem RB.zeroPuts_puts (b : RB) : (b.zeroPuts).puts = 0 := rfl
@[simp] theorem RB.zeroPuts_gets (b : RB) : (b.zeroPuts).gets = b.gets := rfl
@[simp] theorem RB.zeroPuts_ovf (b : RB) : (b.zeroPuts).ovf = b.ovf := rfl
@[simp] theorem RB.zeroPuts_hwm (b : RB) : (b.zeroPuts).hwm = b.hwm := rfl
@[simp] theorem RB.zeroPuts_usable (b : RB) : (b.zeroPuts).usable = b.usable := rfl

@[simp] theorem RB.zeroGets_mem (b : RB) : (b.zeroGets).mem = b.mem := rfl
@[simp] theorem RB.zeroGets_head (b : RB) : (b.zeroGets).head = b.head := rfl
@[simp] theorem RB.zeroGets_tail (b : RB) : (b.zeroGets).tail = b.tail := rfl
@[simp] theorem RB.zeroGets_full (b : RB) : (b.zeroGets).full = b.full := rfl
@[simp] theorem RB.zeroGets_puts (b : RB) : (b.zeroGets).puts = b.puts := rfl
@[simp] theorem RB.zeroGets_gets (b : RB) : (b.zeroGets).gets = 0 := rfl
@[simp] theorem RB.zeroGets_ovf (b : RB) : (b.zeroGets).ovf = b.ovf := rfl
@[simp] theorem RB.zeroGets_hwm (b : RB) : (b.zeroGets).hwm = b.hwm := rfl
@[simp] theorem RB.zeroGets_usable (b : RB) : (b.zeroGets).usable = b.usable := rfl

@[simp] theorem RB.zeroOvf_mem (b : RB) : (b.zeroOvf).mem = b.mem := rfl
@[simp] theorem RB.zeroOvf_head (b : RB) : (b.zeroOvf).head = b.head := rfl
@[simp] theorem RB.zeroOvf_tail (b : RB) : (b.zeroOvf).tail = b.tail := rfl
@[simp] theorem RB.zeroOvf_full (b : RB) : (b.zeroOvf).full = b.full := rfl
@[simp] theorem RB.zeroOvf_puts (b : RB) : (b.zeroOvf).puts = b.puts := rfl
@[simp] theorem RB.zeroOvf_gets (b : RB) : (b.zeroOvf).gets = b.gets := rfl
@[simp] theorem RB.zeroOvf_ovf (b : RB) : (b.zeroOvf).ovf = 0 := rfl
@[simp] theorem RB.zeroOvf_hwm (b : RB) : (b.zeroOvf).hwm = b.hwm := rfl
@[simp] theorem RB.zeroOvf_usable (b : RB) : (b.zeroOvf).usable = b.usable := rfl

@[simp] theorem RB.zeroHwm_mem (b : RB) : (b.zeroHwm).mem = b.mem := rfl
@[simp] theorem RB.zeroHwm_head (b : RB) : (b.zeroHwm).head = b.head := rfl
@[simp] theorem RB.zeroHwm_tail (b : RB) : (b.zeroHwm).tail = b.tail := rfl
@[simp] theorem RB.zeroHwm_full (b : RB) : (b.zeroHwm).full = b.full := rfl
@[simp] theorem RB.zeroHwm_puts (b : RB) : (b.zeroHwm).puts = b.puts := rfl
@[simp] theorem RB.zeroHwm_gets (b : RB) : (b.zeroHwm).gets = b.gets := rfl
@[simp] theorem RB.zeroHwm_ovf (b : RB) : (b.zeroHwm).ovf = b.ovf := rfl
@[simp] theorem RB.zeroHwm_hwm (b : RB) : (b.zeroHwm).hwm = 0 := rfl
@[simp] theorem RB.zeroHwm_usable (b : RB) : (b.zeroHwm).usable = b.usable := rfl

@[simp] theorem RB.dropSlots_mem (b : RB) : (b.dropSlots).mem = [] := rfl
@[simp] theorem RB.dropSlots_head (b : RB) : (b.dropSlots).head = b.head := rfl
@[simp] theorem RB.dropSlots_tail (b : RB) : (b.dropSlots).tail = b.tail := rfl
@[simp] theorem RB.dropSlots_full (b : RB) : (b.dropSlots).full = b.full := rfl
@[simp] theorem RB.dropSlots_puts (b : RB) : (b.dropSlots).puts = b.puts := rfl
@[simp] theorem RB.dropSlots_gets (b : RB) : (b.dropSlots).gets = b.gets := rfl
@[simp] theorem RB.dropSlots_ovf (b : RB) : (b.dropSlots).ovf = b.ovf := rfl
@[simp] theorem RB.dropSlots_hwm (b : RB) : (b.dropSlots).hwm = b.hwm := rfl
@[simp] theorem RB.dropSlots_usable (b : RB) : (b.dropSlots).usable = b.usable := rfl

@[simp] theorem RB.setUsable_mem (v : Bool) (b : RB) : (b.setUsable v).mem = b.mem := rfl
@[simp] theorem RB.setUsable_head (v : Bool) (b : RB) : (b.setUsable v).head = b.head := rfl
@[simp] theorem RB.setUsable_tail (v : Bool) (b : RB) : (b.setUsable v).tail = b.tail := rfl
@[simp] theorem RB.setUsable_full (v : Bool) (b : RB) : (b.setUsable v).full = b.full := rfl
@[simp] theorem RB.setUsable_puts (v : Bool) (b : RB) : (b.setUsable v).puts = b.puts := rfl
@[simp] theorem RB.setUsable_gets (v : Bool) (b : RB) : (b.setUsable v).gets = b.gets := rfl
@[simp] theorem RB.setUsable_ovf (v : Bool) (b : RB) : (b.setUsable v).ovf = b.ovf := rfl
@[simp] theorem RB.setUsable_hwm (v : Bool) (b : RB) : (b.setUsable v).hwm = b.hwm := rfl
@[simp] theorem RB.setUsable_usable (v : Bool) (b : RB) : (b.setUsable v).usable = v := rfl

@[simp] theorem RB.clear_mem (b : RB) : (b.clear).mem = b.mem := rfl
@[simp] theorem RB.clear_head (b : RB) : (b.clear).head = 0 := rfl
@[simp] theorem RB.clear_tail (b : RB) : (b.clear).tail = 0 := rfl
@[simp] theorem RB.clear_full (b : RB) : (b.clear).full = false := rfl
@[simp] theorem RB.clear_puts (b : RB) : (b.clear).puts = b.puts := rfl
@[simp] theorem RB.clear_gets (b : RB) : (b.clear).gets = b.gets := rfl
@[simp] theorem RB.clear_ovf (b : RB) : (b.clear).ovf = b.ovf := rfl
@[simp] theorem RB.clear_hwm (b : RB) : (b.clear).hwm = b.hwm := rfl
@[simp] theorem RB.clear_usable (b : RB) : (b.clear).usable = b.usable := rfl

@[simp] theorem RB.evictIfFull_mem (c w : Nat) (b : RB) : (b.evictIfFull c w).mem = b.mem := by unfold RB.evictIfFull; split <;> rfl
@[simp] theorem RB.evictIfFull_head (c w : Nat) (b : RB) : (b.evictIfFull c w).head = b.head := by unfold RB.evictIfFull; split <;> rfl
@[simp] theorem RB.evictIfFull_tail (c w : Nat) (b : RB) : (b.evictIfFull c w).tail = if b.full then inc c b.tail else b.tail := by unfold RB.evictIfFull; split <;> rfl
@[simp] theorem RB.evictIfFull_full (c w : Nat) (b : RB) : (b.evictIfFull c w).full = b.full := by unfold RB.evictIfFull; split <;> rfl
@[simp] theorem RB.evictIfFull_puts (c w : Nat) (b : RB) : (b.evictIfFull c w).puts = b.puts := by unfold RB.evictIfFull; split <;> rfl
@[simp] theorem RB.evictIfFull_gets (c w : Nat) (b : RB) : (b.evictIfFull c w).gets = b.gets := by unfold RB.evictIfFull; split <;> rfl
@[simp] theorem RB.evictIfFull_ovf (c w : Nat) (b : RB) : (b.evictIfFull c w).ovf = if b.full then wrap w (b.ovf + 1) else b.ovf := by unfold RB.evictIfFull; split <;> rfl
@[simp] theorem RB.evictIfFull_hwm (c w : Nat) (b : RB) : (b.evictIfFull c w).hwm = b.hwm := by unfold RB.evictIfFull; split <;> rfl
@[simp] theorem RB.evictIfFull_usable (c w : Nat) (b : RB) : (b.evictIfFull c w).usable = b.usable := by unfold RB.evictIfFull; split <;> rfl

@[simp] theorem RB.raiseHwm_mem (c : Nat) (b : RB) : (b.raiseHwm c).mem = b.mem := by unfold RB.raiseHwm; split <;> rfl
@[simp] theorem RB.raiseHwm_head (c : Nat) (b : RB) : (b.raiseHwm c).head = b.head := by unfold RB.raiseHwm; split <;> rfl
@[simp] theorem RB.raiseHwm_tail (c : Nat) (b : RB) : (b.raiseHwm c).tail = b.tail := by unfold RB.raiseHwm; split <;> rfl
@[simp] theorem RB.raiseHwm_full (c : Nat) (b : RB) : (b.raiseHwm c).full = b.full := by unfold RB.raiseHwm; split <;> rfl
@[simp] theorem RB.raiseHwm_puts (c : Nat) (b : RB) : (b.raiseHwm c).puts = b.puts := by unfold RB.raiseHwm; split <;> rfl
@[simp] theorem RB.raiseHwm_gets (c : Nat) (b : RB) : (b.raiseHwm c).gets = b.gets := by unfold RB.raiseHwm; split <;> rfl
@[simp] theorem RB.raiseHwm_ovf (c : Nat) (b : RB) : (b.raiseHwm c).ovf = b.ovf := by unfold RB.raiseHwm; split <;> rfl
@[simp] theorem RB.raiseHwm_hwm (c : Nat) (b : RB) : (b.raiseHwm c).hwm = max b.hwm (b.occ c) := by unfold RB.raiseHwm; split <;> simp <;> omega
@[simp] theorem RB.raiseHwm_usable (c : Nat) (b : RB) : (b.raiseHwm c).usable = b.usable := by unfold RB.raiseHwm; split <;> rfl

end Sys2Proof.Machine
end

