-- ==== Sys2Proof/Laws/Ops.lean ====
section
/-! SUPPORT. What each shared operation can do when it answers: one lemma per operation, which proofs cite instead of
unfolding it. -/

namespace Sys2Proof.Machine

/-! ### Outcomes -/

@[simp] theorem State.answer_eq (r : Response) (s : State) : s.answer r = .next (s.withResp r) := rfl

@[simp] theorem State.wrongPort_eq (s : State) : s.wrongPort = .next (s.withResp (.rs .wrongPort)) := rfl

/-- The gate answers `NOT_READY` in `UNINIT` and lets the operation run in `READY` (R180). -/
theorem State.whenReady_eq (fmt : RespFormat) (k : State → Out) (s : State) :
    s.whenReady fmt k = if s.st = .ready then k s else .next (s.withResp (fmt.failed .notReady)) := by
  unfold State.whenReady
  cases s.st <;> simp

/-- A buffer operation's result, put back. -/
theorem State.finishBuf_next {u : UnitId} {r : Except Fault (RB × Response)} {s t : State}
    (h : s.finishBuf u r = .next t) : ∃ b a, r = .ok (b, a) ∧ t = (s.setBuf u b).withResp a := by
  rcases r with e | ⟨b, a⟩
  · simp [State.finishBuf] at h
  · exact ⟨b, a, rfl, by simpa [State.finishBuf] using h.symm⟩

/-! ### The ring buffer's operations -/

/-- `PUT` answers `UNUSABLE` and leaves the buffer, or stores at a valid `head` and answers `OK` (R132, R148). -/
theorem RB.put_ok {c w : Nat} {f : Frame} {t : Timestamp} {b d : RB} {r : Response} (h : b.put c w f t = .ok (d, r)) :
    (b.usable = false ∧ d = b ∧ r = .rs .unusable) ∨
    (b.usable = true ∧ b.head < c ∧ d = b.putBody c w f t ∧ r = .rs .ok) := by
  unfold RB.put at h
  split at h
  · split at h
    · simp only [Except.ok.injEq, Prod.mk.injEq] at h
      exact .inr ⟨‹_›, ‹_›, h.1.symm, h.2.symm⟩
    · cases h
  · rename_i hu
    simp only [Except.ok.injEq, Prod.mk.injEq] at h
    exact .inl ⟨by simpa using hu, h.1.symm, h.2.symm⟩

/-- The entry at `tail` is read at a valid index, where a slot holds it (R62). -/
theorem RB.tailEntry_ok {c : Nat} {b : RB} {e : Entry} (h : b.tailEntry c = .ok e) :
    b.tail < c ∧ Memory.read b.mem b.tail = some e := by
  unfold RB.tailEntry at h
  split at h
  · split at h
    · simp only [Except.ok.injEq] at h
      exact ⟨‹_›, h ▸ ‹_›⟩
    · cases h
  · cases h

theorem RB.tailEntry_of_read {c : Nat} {b : RB} {e : Entry} (ht : b.tail < c) (hr : Memory.read b.mem b.tail = some e) :
    b.tailEntry c = .ok e := by
  simp [RB.tailEntry, ht, hr]

/-- What `GET` makes of a buffer it takes an entry from (R136). -/
def RB.taken (c w : Nat) (b : RB) : RB := (b.clearFull.advanceTail c).countGet w

/-- `GET` answers `EMPTY` and leaves the buffer, or takes the entry at `tail` (R136). -/
theorem RB.get_ok {c w : Nat} {b d : RB} {r : Response} (h : b.get c w = .ok (d, r)) :
    (b.occ c = 0 ∧ d = b ∧ r = .rf .empty false Frame.zero) ∨
    (b.occ c ≠ 0 ∧ ∃ e, b.tailEntry c = .ok e ∧ d = b.taken c w ∧ r = .rf .ok true e.frame) := by
  unfold RB.get at h
  split at h
  · simp only [Except.ok.injEq, Prod.mk.injEq] at h
    exact .inl ⟨‹_›, h.1.symm, h.2.symm⟩
  · split at h
    · cases h
    · rename_i e he
      simp only [Except.ok.injEq, Prod.mk.injEq] at h
      exact .inr ⟨‹_›, e, he, h.1.symm, h.2.symm⟩

/-- `PEEK` leaves the buffer (R140). -/
theorem RB.peek_ok {c : Nat} {b d : RB} {r : Response} (h : b.peek c = .ok (d, r)) :
    d = b ∧ ((b.occ c = 0 ∧ r = .rf .empty false Frame.zero) ∨
      (b.occ c ≠ 0 ∧ ∃ e, b.tailEntry c = .ok e ∧ r = .rf .ok true e.frame)) := by
  unfold RB.peek at h
  split at h
  · simp only [Except.ok.injEq, Prod.mk.injEq] at h
    exact ⟨h.1.symm, .inl ⟨‹_›, h.2.symm⟩⟩
  · split at h
    · cases h
    · rename_i e he
      simp only [Except.ok.injEq, Prod.mk.injEq] at h
      exact ⟨h.1.symm, .inr ⟨‹_›, e, he, h.2.symm⟩⟩

/-- `INSTIME` leaves the buffer (R144). -/
theorem RB.instime_ok {c : Nat} {x : Timestamp} {b d : RB} {r : Response} (h : b.instime c x = .ok (d, r)) :
    d = b ∧ ((b.occ c = 0 ∧ r = .rt .empty false x) ∨
      (b.occ c ≠ 0 ∧ ∃ e, b.tailEntry c = .ok e ∧ r = .rt .ok true e.ts)) := by
  unfold RB.instime at h
  split at h
  · simp only [Except.ok.injEq, Prod.mk.injEq] at h
    exact ⟨h.1.symm, .inl ⟨‹_›, h.2.symm⟩⟩
  · split at h
    · cases h
    · rename_i e he
      simp only [Except.ok.injEq, Prod.mk.injEq] at h
      exact ⟨h.1.symm, .inr ⟨‹_›, e, he, h.2.symm⟩⟩

/-- A construction leaves zero registers where `alloc_ok` is 1, else an unusable buffer (R130, R50). -/
theorem constructed_cases (c w : Nat) (ok : Bool) (n : Nat) :
    (ok = true ∧ constructed c w ok n = { RB.fresh with usable := decide (1 ≤ c) }) ∨
    (ok = false ∧ constructed c w ok n = RB.unusableFrom c w n) := by
  cases ok
  · exact .inr ⟨rfl, rfl⟩
  · exact .inl ⟨rfl, rfl⟩

/-- A buffer whose construction fails answers `OK` only if it has no entries (R130(b), R182). Log entry 10. -/
theorem constructStatus_ok {c : Nat} {ok : Bool} : constructStatus c ok = .ok ↔ c = 0 ∨ ok = true := by
  unfold constructStatus
  split
  · simp [*]
  · cases ok <;> simp [*]

/-- The writes of a construction, one after the other, make of any buffer what `CONSTRUCT` leaves (R130, R50). -/
theorem foldl_buildActs (c w : Nat) (ok : Bool) (n : Nat) (b : RB) :
    (buildActs c ok n).foldl (fun d a => a.apply c w d) b = constructed c w ok n := by
  cases ok <;> rfl

/-! ### Micro-steps -/

/-- A micro-step answers and ends the operation, or writes its effect and leaves the rest, or has read what it answers next
(R281). -/
theorem State.runAct_next {u : UnitId} {a : MicroAct} {rest : List MicroAct} {s t : State}
    (h : s.runAct u a rest = .next t) :
    (a.mayEnd = true ∧ ∃ r, t = (s.setMicro u Micro.idle).withResp r) ∨
    (a.ends = false ∧ ∃ l, t = (s.effect u a).setMicro u ⟨l, rest⟩) ∨
    (a.mayEnd = true ∧ ∃ r, t = s.goOn u (.answer r :: rest)) := by
  cases a with
  | checkNotEmpty onEmpty =>
    simp only [State.runAct, State.endMicro, State.answer_eq] at h
    split at h <;> cases h
    · exact .inl ⟨rfl, _, rfl⟩
    · exact .inr (.inl ⟨rfl, _, rfl⟩)
  | readFrame =>
    simp only [State.runAct] at h
    split at h <;> cases h
    exact .inr (.inl ⟨rfl, _, rfl⟩)
  | answerPeek | answerTime =>
    simp only [State.runAct, State.endMicro, State.answer_eq] at h
    split at h <;> cases h
    exact .inl ⟨rfl, _, rfl⟩
  | answerLatched | answer => cases h; exact .inl ⟨rfl, _, rfl⟩
  | sample | readReceived | readSent => cases h; exact .inr (.inr ⟨rfl, _, rfl⟩)
  | clearFull | advanceTail | countGet | zeroHead | zeroTail | countReceived | countSent | build | storePoll | storeXtal
  | writeSt | writeIrq | callChip => cases h; exact .inr (.inl ⟨rfl, _, rfl⟩)

/-- A micro-step: nothing if no operation is in progress, else its first pending one. -/
theorem State.microStep_next {u : UnitId} {s t : State} (h : s.microStep u = .next t) :
    ((s.micro u).todo = [] ∧ t = s) ∨ ∃ a rest, (s.micro u).todo = a :: rest ∧ s.runAct u a rest = .next t := by
  unfold State.microStep at h
  split at h
  · cases h
    exact .inl ⟨‹_›, rfl⟩
  · exact .inr ⟨_, _, ‹_›, h⟩

/-! ### Consumer operations -/

/-- A consumer operation runs whole if operations are atomic, else begins with its first micro-step (R63, R280). -/
theorem State.wholeOrSplit_next {u : UnitId} {whole : State → Out} {acts : List MicroAct} {s t : State}
    (h : s.wholeOrSplit u whole acts = .next t) :
    (s.cfg.atomic = true ∧ whole s = .next t) ∨ (s.cfg.atomic = false ∧ s.startMicro u acts = .next t) := by
  unfold State.wholeOrSplit at h
  split at h
  · exact .inl ⟨‹_›, h⟩
  · exact .inr ⟨by simp_all, h⟩

/-- A consumer operation behind the buffer's gate (R148): the answer `UNUSABLE`, the whole operation, or its first
micro-step. -/
theorem State.onBuffer_next {u : UnitId} {fmt : RespFormat} {whole : RB → Except Fault (RB × Response)}
    {acts : List MicroAct} {s t : State} (h : s.onBuffer u fmt whole acts = .next t) :
    ((s.buf u).usable = false ∧ t = s.withResp (fmt.failed .unusable)) ∨
    ((s.buf u).usable = true ∧ s.cfg.atomic = true ∧
      ∃ b r, whole (s.buf u) = .ok (b, r) ∧ t = (s.setBuf u b).withResp r) ∨
    ((s.buf u).usable = true ∧ s.cfg.atomic = false ∧ s.startMicro u acts = .next t) := by
  unfold State.onBuffer at h
  split at h
  · rcases State.wholeOrSplit_next h with ⟨ha, h⟩ | ⟨ha, h⟩
    · exact .inr (.inl ⟨‹_›, ha, State.finishBuf_next h⟩)
    · exact .inr (.inr ⟨‹_›, ha, h⟩)
  · rename_i hu
    cases h
    exact .inl ⟨by simpa using hu, rfl⟩

/-- A consumer operation by its port (R102, R180): the answer `WRONG_PORT`, the answer `NOT_READY`, or the operation on the
unit's buffer. -/
theorem State.onConsumerPort_next {fmt : RespFormat} {whole : Nat → Nat → RB → Except Fault (RB × Response)}
    {acts : List MicroAct} {s t : State} (h : s.onConsumerPort fmt whole acts = .next t) :
    ((s.port = .rbP ∨ s.port = .adpE) ∧ t = s.withResp (.rs .wrongPort)) ∨
    (s.port = .adpA ∧ s.st ≠ .ready ∧ t = s.withResp (fmt.failed .notReady)) ∨
    ∃ u, s.port = u.consumerPort ∧ (u = .adp → s.st = .ready) ∧
      s.onBuffer u fmt (whole (s.cap u) s.cfg.cntw) acts = .next t := by
  unfold State.onConsumerPort at h
  cases hp : s.port <;> simp only [hp] at h
  · simp only [State.wrongPort_eq, Host.Outcome.next.injEq] at h
    exact .inl ⟨.inl rfl, h.symm⟩
  · exact .inr (.inr ⟨.rb, rfl, by simp, h⟩)
  · rw [State.whenReady_eq] at h
    split at h
    · exact .inr (.inr ⟨.adp, rfl, fun _ => ‹_›, h⟩)
    · simp only [Host.Outcome.next.injEq] at h
      exact .inr (.inl ⟨rfl, ‹_›, h.symm⟩)
  · simp only [State.wrongPort_eq, Host.Outcome.next.injEq] at h
    exact .inl ⟨.inr rfl, h.symm⟩

/-- An application command by its port (R102, R180). -/
theorem State.onApplicationPort_next {fmt : RespFormat} {k : State → Out} {s t : State}
    (h : s.onApplicationPort fmt k = .next t) :
    (s.port ≠ .adpA ∧ t = s.withResp (.rs .wrongPort)) ∨
    (s.port = .adpA ∧ s.st ≠ .ready ∧ t = s.withResp (fmt.failed .notReady)) ∨
    (s.port = .adpA ∧ s.st = .ready ∧ k s = .next t) := by
  unfold State.onApplicationPort at h
  cases hp : s.port <;> simp only [hp] at h
  case adpA =>
    rw [State.whenReady_eq] at h
    split at h
    · exact .inr (.inr ⟨rfl, ‹_›, h⟩)
    · simp only [Host.Outcome.next.injEq] at h
      exact .inr (.inl ⟨rfl, ‹_›, h.symm⟩)
  all_goals
    simp only [State.wrongPort_eq, Host.Outcome.next.injEq] at h
    exact .inl ⟨by simp, h.symm⟩

/-! ### Initialisation and the production step -/

/-- Both constructions answer `OK`: each capacity is zero or its allocation succeeds (R182). Log entry 10. -/
theorem State.buffersAllocated_eq (s : State) : s.buffersAllocated = true ↔ s.allocates := by
  simp [State.buffersAllocated, constructStatus_ok]

/-- The whole of `INITBODY` (R182): a state `t` with both buffers constructed, and `READY` with `OK` or `UNINIT` with
`INIT_FAIL`. -/
theorem State.initBody_next {s t : State} (h : s.initBody = .next t) :
    (s.initSucceeds s.cfgXtal ∧
      t = { s.constructBuffers with
            st := .ready, irqReg := !s.cfgPoll, resp := some (.rs .ok), calls := s.calls ++ s.initCalls s.cfgXtal }) ∨
    (¬ s.initSucceeds s.cfgXtal ∧
      t = { s.constructBuffers with
            st := .uninit, irqReg := false, resp := some (.rs .initFail), calls := s.calls ++ s.initCalls s.cfgXtal }) := by
  have hb := s.buffersAllocated_eq
  unfold State.initBody at h
  by_cases ha : s.allocates
  · by_cases hx : s.cfgXtal = 3#2
    · simp only [hb.2 ha, hx, if_true, State.answer_eq, Host.Outcome.next.injEq] at h
      exact .inr ⟨fun k => k.2.1 hx, h ▸ by
        simp [State.initCalls, hx, State.unregister, State.constructBuffers, State.withResp]⟩
    · by_cases hs : s.env.start = true
      · by_cases hm : s.env.setMode = true
        · simp [hb.2 ha, hx, hs, hm, State.startChip] at h
          exact .inl ⟨⟨ha, hx, hs, hm⟩, h ▸ by
            simp [State.initCalls, ha, hx, hs, State.unregister, State.constructBuffers, State.withResp, State.call,
              State.register]⟩
        · simp [hb.2 ha, hx, hs, hm, State.startChip] at h
          exact .inr ⟨fun k => hm k.2.2.2, h ▸ by
            simp [State.initCalls, ha, hx, hs, State.unregister, State.constructBuffers, State.withResp, State.call]⟩
      · simp [hb.2 ha, hx, hs, State.startChip] at h
        exact .inr ⟨fun k => hs k.2.2.1, h ▸ by
          simp [State.initCalls, ha, hx, hs, State.unregister, State.constructBuffers, State.withResp, State.call]⟩
  · have hn : s.buffersAllocated = false := by simpa using fun k => ha (hb.1 k)
    simp only [hn, Bool.false_eq_true, if_false, State.answer_eq, Host.Outcome.next.injEq] at h
    exact .inr ⟨fun k => ha k.1, h ▸ by
      simp [State.initCalls, ha, State.unregister, State.constructBuffers, State.withResp]⟩

/-- An initialisation of an adapter with a receive buffer runs whole, or begins with its first micro-step (R280). -/
theorem State.initialise_next {poll : Bool} {xtal : Xtal} {whole : State → Out} {before : List MicroAct} {s t : State}
    (h : s.initialise poll xtal whole before = .next t) :
    s.cfg.rxC ≠ 0 ∧
      ((s.cfg.atomic = true ∧ whole s = .next t) ∨
      (s.cfg.atomic = false ∧
        (s.useFree (2 * unusableFreeValues)).startMicro .adp (before ++ s.initActs poll xtal) = .next t)) := by
  unfold State.initialise at h
  split at h
  · cases h
  · split at h
    · exact ⟨‹_›, .inl ⟨‹_›, h⟩⟩
    · exact ⟨‹_›, .inr ⟨by simp_all, h⟩⟩

/-- A production step (R200): one `chip.receive`, and at most one `PUT` into `rx`. -/
theorem State.productionStep_next {s t : State} (h : s.productionStep = .next t) :
    (s.env.receive = none ∧ t = s.call .receive) ∨
    (∃ f, s.env.receive = some f ∧ s.rx.usable = false ∧ t = s.call .receive) ∨
    ∃ f, s.env.receive = some f ∧ s.rx.usable = true ∧ s.rx.head < s.cfg.rxC ∧
      t = { s.call .receive with rx := s.rx.putBody s.cfg.rxC s.cfg.cntw f s.env.now } := by
  unfold State.productionStep at h
  simp only [State.call_env, State.call_rx, State.call_cfg] at h
  split at h
  · simp only [Host.Outcome.next.injEq] at h
    exact .inl ⟨‹_›, h.symm⟩
  · rename_i f hf
    split at h
    · cases h
    · rename_i b r hb
      simp only [Host.Outcome.next.injEq] at h
      rcases RB.put_ok hb with ⟨hu, rfl, -⟩ | ⟨hu, hh, rfl, -⟩
      · exact .inr (.inl ⟨f, hf, hu, h.symm⟩)
      · exact .inr (.inr ⟨f, hf, hu, hh, h.symm⟩)

/-- An edge (R228): discarded, or one production step. -/
theorem State.takeEdge_next {s t : State} (h : s.takeEdge = .next t) :
    (¬ (s.st = .ready ∧ s.irqReg = true) ∧ t = s) ∨
    (s.st = .ready ∧ s.irqReg = true ∧ s.productionStep = .next t) := by
  unfold State.takeEdge at h
  cases hs : s.st <;> simp only [hs] at h
  · simp only [Host.Outcome.next.injEq] at h
    exact .inl ⟨by simp, h.symm⟩
  · split at h
    · exact .inr ⟨rfl, ‹_›, h⟩
    · simp only [Host.Outcome.next.injEq] at h
      exact .inl ⟨by simp_all, h.symm⟩

/-! ### Operations in progress -/

@[simp] theorem BufFlags.settles_nil (u : UnitId) (k : RingId) (c w : Nat) (f : BufFlags) :
    BufFlags.Settles u k c w f [] = f.Valid := rfl

@[simp] theorem BufFlags.settles_cons (u : UnitId) (k : RingId) (c w : Nat) (f : BufFlags) (a : MicroAct)
    (rest : List MicroAct) :
    BufFlags.Settles u k c w f (a :: rest) = (f.Valid ∧ (a.ends = true ∨
      ((k = ringOf u → a = .advanceTail → f.usable = true) ∧ BufFlags.Settles u k c w (a.flags u k c w f) rest))) := rfl

@[simp] theorem AdpRegs.settles_nil (r : AdpRegs) : r.Settles [] = r.Agree := rfl

@[simp] theorem AdpRegs.settles_cons (r : AdpRegs) (a : MicroAct) (rest : List MicroAct) :
    r.Settles (a :: rest) = ((a.mayEnd = true → r.Agree) ∧ (a.ends = true ∨ (a.regs r).Settles rest)) := rfl

/-- Whether a buffer stays valid along the micro-steps can be computed. -/
def BufFlags.decideSettles (u : UnitId) (k : RingId) (c w : Nat) (f : BufFlags) (todo : List MicroAct) :
    Decidable (BufFlags.Settles u k c w f todo) :=
  match todo with
  | [] => inferInstanceAs (Decidable f.Valid)
  | a :: rest =>
    have := BufFlags.decideSettles u k c w (a.flags u k c w f) rest
    inferInstanceAs (Decidable (f.Valid ∧ (a.ends = true ∨ ((k = ringOf u → a = .advanceTail → f.usable = true) ∧
      BufFlags.Settles u k c w (a.flags u k c w f) rest))))

/-- Whether the adapter's registers come to agree can be computed. -/
def AdpRegs.decideSettles (r : AdpRegs) (todo : List MicroAct) : Decidable (r.Settles todo) :=
  match todo with
  | [] => inferInstanceAs (Decidable r.Agree)
  | a :: rest =>
    have := AdpRegs.decideSettles (a.regs r) rest
    inferInstanceAs (Decidable ((a.mayEnd = true → r.Agree) ∧ (a.ends = true ∨ (a.regs r).Settles rest)))

/-- With no operation in progress the adapter's registers agree (R40, R42). -/
theorem State.agree_of_shape {s : State} (h : s.Shape) (hq : s.adpMicro.todo = []) : s.adpRegs.Agree := by
  simpa [hq] using h.2.2.2.2.2.2.2.2.2.2.1

/-- With no operation in progress the shape is that of the three buffers, the two counters and the adapter's registers. -/
theorem State.shape_of_quiet {s : State} (hq : s.quiet) (hb : s.rb.Shape s.cfg.rbC s.cfg.cntw)
    (hr : s.rx.Shape s.cfg.rxC s.cfg.cntw) (ht : s.tx.Shape s.cfg.txC s.cfg.cntw) (hrx : s.rxCount < 2 ^ s.cfg.cntw)
    (htx : s.txCount < 2 ^ s.cfg.cntw) (ha : s.adpRegs.Agree) : s.Shape := by
  have valid : ∀ {c w : Nat} {b : RB}, b.Shape c w → (b.flags c).Valid := fun {c w b} h => by
    simpa [BufFlags.Valid, RB.flags] using fun hu => (h.2.2.2.2.2.2.2.2 hu).2
  simp only [State.Shape, hq.1, hq.2, BufFlags.settles_nil, AdpRegs.settles_nil]
  exact ⟨hb, hr, ht, hrx, htx, by simp, by simp, valid hb, valid hr, valid ht, ha, fun _ => hq⟩

end Sys2Proof.Machine
end

