-- ==== Sys2Proof/Laws/PerInstr.lean ====
section
/-! SUPPORT. Facts about every instruction as syntax, one lemma per constructor. Family OpcodeField: the low eight bits of an
operation's word are its opcode (R91, R100); the event's word is its one bit (R96). -/

namespace Sys2Proof.Laws

/-- The low bits of a concatenation are those of its low part. -/
theorem low_of_append {n m : Nat} (x : BitVec n) (y : BitVec m) : (x ++ y).extractLsb' 0 m = y := by
  apply BitVec.eq_of_getLsbD_eq
  intro i hi
  simp [BitVec.getLsbD_append, hi]

/-- Widening keeps the low eight bits. -/
theorem low_of_setWidth {n : Nat} (x : BitVec n) :
    (x.setWidth 118).extractLsb' 0 8 = x.extractLsb' 0 8 := by
  apply BitVec.eq_of_getLsbD_eq
  intro i hi
  have : i < 118 := by omega
  simp [hi, this]

namespace OpcodeField

/-- The low eight bits of a command word are its opcode; the event's word is 1. -/
def Statement (i : Instr) : Prop :=
  (i ≠ .pstep → (encode i).extractLsb' 0 8 = i.opcode) ∧ (i = .pstep → encode i = 1#118)

theorem put (f : Frame) : Statement (.put f) := ⟨fun _ => (low_of_setWidth _).trans (low_of_append _ _), by simp⟩
theorem get : Statement .get := ⟨fun _ => by decide, by simp⟩
theorem peek : Statement .peek := ⟨fun _ => by decide, by simp⟩
theorem instime : Statement .instime := ⟨fun _ => by decide, by simp⟩
theorem clear : Statement .clear := ⟨fun _ => by decide, by simp⟩
theorem construct : Statement .construct := ⟨fun _ => by decide, by simp⟩
theorem avail : Statement .avail := ⟨fun _ => by decide, by simp⟩
theorem occ : Statement .occ := ⟨fun _ => by decide, by simp⟩
theorem free : Statement .free := ⟨fun _ => by decide, by simp⟩
theorem full : Statement .full := ⟨fun _ => by decide, by simp⟩
theorem empty : Statement .empty := ⟨fun _ => by decide, by simp⟩
theorem hwm : Statement .hwm := ⟨fun _ => by decide, by simp⟩
theorem putcnt : Statement .putcnt := ⟨fun _ => by decide, by simp⟩
theorem getcnt : Statement .getcnt := ⟨fun _ => by decide, by simp⟩
theorem ovfcnt : Statement .ovfcnt := ⟨fun _ => by decide, by simp⟩
theorem init (poll : Bool) (xtal : Xtal) : Statement (.init poll xtal) := ⟨fun _ => (low_of_setWidth _).trans (low_of_append _ _), by simp⟩
theorem aavail : Statement .aavail := ⟨fun _ => by decide, by simp⟩
theorem getmsg : Statement .getmsg := ⟨fun _ => by decide, by simp⟩
theorem send (f : Frame) (rtr ext : Bool) (prio : Prio) : Statement (.send f rtr ext prio) := ⟨fun _ => low_of_append _ _, by simp⟩
theorem reset : Statement .reset := ⟨fun _ => by decide, by simp⟩
theorem rxcnt : Statement .rxcnt := ⟨fun _ => by decide, by simp⟩
theorem txcnt : Statement .txcnt := ⟨fun _ => by decide, by simp⟩
theorem pstep : Statement .pstep := ⟨fun h => absurd rfl h, fun _ => rfl⟩

end OpcodeField
end Sys2Proof.Laws
end

