-- ==== Sys2Proof/Laws/RingBuffer.lean ====
section
/-! SUPPORT. What the ring buffer's operations leave: the registers after a `PUT` and a `GET`, and which updates leave the occupancy
alone. -/

namespace Sys2Proof.Machine

/-! ### Occupancy -/

/-- The occupancy reads `head`, `tail` and `full` only (R30). -/
theorem RB.occ_congr {c : Nat} {b d : RB} (h : b.head = d.head) (t : b.tail = d.tail) (f : b.full = d.full) :
    b.occ c = d.occ c := by
  unfold RB.occ
  rw [h, t, f]

@[simp] theorem RB.occ_store (c : Nat) (f : Frame) (t : Timestamp) (b : RB) : (b.store f t).occ c = b.occ c :=
  RB.occ_congr rfl rfl rfl
@[simp] theorem RB.occ_countPut (c w : Nat) (b : RB) : (b.countPut w).occ c = b.occ c := RB.occ_congr rfl rfl rfl
@[simp] theorem RB.occ_countGet (c w : Nat) (b : RB) : (b.countGet w).occ c = b.occ c := RB.occ_congr rfl rfl rfl
@[simp] theorem RB.occ_raiseHwm (c d : Nat) (b : RB) : (b.raiseHwm d).occ c = b.occ c :=
  RB.occ_congr (by simp) (by simp) (by simp)
@[simp] theorem RB.occ_clear (c : Nat) (b : RB) : b.clear.occ c = 0 := by simp [RB.occ]
@[simp] theorem RB.occ_fresh (c : Nat) : RB.fresh.occ c = 0 := by simp [RB.occ, RB.fresh]

/-- The first arm of the occupancy function (R30). -/
theorem RB.occ_of_full {c : Nat} {b : RB} (h : b.full = true) : b.occ c = c := by simp [RB.occ, h]

/-- The second and third arms stay below the capacity for valid indices (R30). -/
theorem RB.occ_lt_of_not_full {c : Nat} {b : RB} (h : b.full = false) (hh : b.head < c) (ht : b.tail < c) :
    b.occ c < c := by
  simp only [RB.occ, h]
  simp only [Bool.false_eq_true, if_false]
  split <;> omega

/-- For valid indices the occupancy never exceeds the capacity (R32). -/
theorem RB.occ_le {c : Nat} {b : RB} (hh : b.head < c) (ht : b.tail < c) : b.occ c ≤ c := by
  cases h : b.full
  · exact Nat.le_of_lt (RB.occ_lt_of_not_full h hh ht)
  · exact Nat.le_of_eq (RB.occ_of_full h)

/-! ### The increment -/

theorem inc_lt {c i : Nat} (h : i < c) : inc c i < c := by
  unfold inc
  split <;> omega

theorem inc_eq_mod {c i : Nat} (h : i < c) : inc c i = (i + 1) % c := by
  unfold inc
  split
  · rename_i h'; rw [h', Nat.mod_self]
  · rw [Nat.mod_eq_of_lt (by omega)]

/-! ### The registers after a PUT (R132) -/

section PutBody
variable (c w : Nat) (f : Frame) (t : Timestamp) (b : RB)

@[simp] theorem RB.putBody_mem : (b.putBody c w f t).mem = Memory.write b.mem b.head ⟨f, t⟩ := by simp [RB.putBody]
@[simp] theorem RB.putBody_head : (b.putBody c w f t).head = inc c b.head := by simp [RB.putBody]
@[simp] theorem RB.putBody_tail : (b.putBody c w f t).tail = if b.full then inc c b.tail else b.tail := by
  simp only [RB.putBody, RB.countPut_tail, RB.raiseHwm_tail, RB.recomputeFull_tail, RB.advanceHead_tail, RB.evictIfFull_tail]
  rfl
@[simp] theorem RB.putBody_full :
    (b.putBody c w f t).full = decide (inc c b.head = if b.full then inc c b.tail else b.tail) := by
  rw [← RB.putBody_tail c w f t b, ← RB.putBody_head c w f t b]
  simp [RB.putBody]
@[simp] theorem RB.putBody_puts : (b.putBody c w f t).puts = wrap w (b.puts + 1) := by simp [RB.putBody]
@[simp] theorem RB.putBody_gets : (b.putBody c w f t).gets = b.gets := by simp [RB.putBody]
@[simp] theorem RB.putBody_ovf : (b.putBody c w f t).ovf = if b.full then wrap w (b.ovf + 1) else b.ovf := by
  simp only [RB.putBody, RB.countPut_ovf, RB.raiseHwm_ovf, RB.recomputeFull_ovf, RB.advanceHead_ovf, RB.evictIfFull_ovf]
  rfl
@[simp] theorem RB.putBody_usable : (b.putBody c w f t).usable = b.usable := by simp [RB.putBody]

/-- The mark is raised to the new occupancy (R36). -/
theorem RB.putBody_hwm : (b.putBody c w f t).hwm = max b.hwm ((b.putBody c w f t).occ c) := by
  simp [RB.putBody]

end PutBody

/-! ### The registers after a GET (R136) -/

section Taken
variable (c w : Nat) (b : RB)

@[simp] theorem RB.taken_mem : (b.taken c w).mem = b.mem := rfl
@[simp] theorem RB.taken_head : (b.taken c w).head = b.head := rfl
@[simp] theorem RB.taken_tail : (b.taken c w).tail = inc c b.tail := rfl
@[simp] theorem RB.taken_full : (b.taken c w).full = false := rfl
@[simp] theorem RB.taken_puts : (b.taken c w).puts = b.puts := rfl
@[simp] theorem RB.taken_gets : (b.taken c w).gets = wrap w (b.gets + 1) := rfl
@[simp] theorem RB.taken_ovf : (b.taken c w).ovf = b.ovf := rfl
@[simp] theorem RB.taken_hwm : (b.taken c w).hwm = b.hwm := rfl
@[simp] theorem RB.taken_usable : (b.taken c w).usable = b.usable := rfl

end Taken

/-! ### Occupancy after each operation -/

/-- For valid indices, and `full` only where they meet, a `PUT` on a buffer that is not full adds one entry (R132). -/
theorem RB.occ_putBody_of_not_full {c w : Nat} {f : Frame} {t : Timestamp} {b : RB} (h : b.full = false)
    (ht : b.tail < c) : (b.putBody c w f t).occ c = b.occ c + 1 := by
  simp only [RB.occ, RB.putBody_full, RB.putBody_head, RB.putBody_tail, h, decide_eq_true_eq]
  simp only [Bool.false_eq_true, if_false]
  unfold inc
  split <;> split <;> split <;> (try split at *) <;> omega

/-- A `PUT` on a full buffer leaves it full (R132). -/
theorem RB.occ_putBody_of_full {c w : Nat} {f : Frame} {t : Timestamp} {b : RB} (h : b.full = true)
    (he : b.head = b.tail) : (b.putBody c w f t).full = true ∧ (b.putBody c w f t).occ c = c := by
  have : (b.putBody c w f t).full = true := by simp [h, he]
  exact ⟨this, RB.occ_of_full this⟩

/-- Taking the entry at `tail` from a buffer that holds one lowers the occupancy by one (R136). -/
theorem RB.occ_taken {c w : Nat} {b : RB} (h : b.occ c ≠ 0) (hh : b.head < c) (ht : b.tail < c)
    (hf : b.full = true → b.head = b.tail) : (b.taken c w).occ c + 1 = b.occ c := by
  cases hb : b.full
  · simp only [RB.occ, hb, RB.taken_full, RB.taken_head, RB.taken_tail, Bool.false_eq_true, if_false, inc] at h ⊢
    by_cases hl : b.tail ≤ b.head <;> by_cases hc : b.tail + 1 = c <;> simp only [hl, hc, if_true, if_false] at h ⊢ <;>
      split <;> omega
  · have he := hf hb
    rw [RB.occ_of_full hb]
    simp only [RB.occ, RB.taken_full, RB.taken_head, RB.taken_tail, Bool.false_eq_true, if_false, inc]
    split <;> split <;> omega

end Sys2Proof.Machine
end

