-- ==== Sys2Proof/Tests/Slice0.lean ====
section
/-! SUPPORT. Tests of the model against the worked examples and vectors of `95_test_vectors.md` (the vector is named in each
comment; every expected value is the spec's, none the model's own answer), the smoke tests of WellFormed, and for every
obligation with hypotheses a witness that meets them. -/

namespace Sys2Proof.Tests

open Sys2Proof.Machine

/-! ### The frames and start states of 95_test_vectors.md -/

def frameA : Frame := ⟨0x00000100, 1, ⟨0xA0, 0, 0, 0, 0, 0, 0, 0⟩⟩
def frameB : Frame := ⟨0x00000200, 2, ⟨0xB0, 0xB1, 0, 0, 0, 0, 0, 0⟩⟩
def frameC : Frame := ⟨0x00000300, 3, ⟨0xC0, 0xC1, 0xC2, 0, 0, 0, 0, 0⟩⟩
def frameD : Frame := ⟨0x00000400, 4, ⟨0xD0, 0xD1, 0xD2, 0xD3, 0, 0, 0, 0⟩⟩
def frameE : Frame := ⟨0x00000500, 8, ⟨0xE0, 0xE1, 0xE2, 0xE3, 0xE4, 0xE5, 0xE6, 0xE7⟩⟩
/-- The frame of T10. -/
def frameT10 : Frame := ⟨0x00000123, 2, ⟨0x11, 0x22, 0, 0, 0, 0, 0, 0⟩⟩

/-- A fresh buffer. -/
def bufFresh : RB := ⟨[], 0, 0, false, 0, 0, 0, 0, true⟩
/-- After `PUT A @now=1000` (V6). -/
def bufA : RB := ⟨[(0, ⟨frameA, 1000⟩)], 1, 0, false, 1, 0, 0, 1, true⟩
/-- After A B C D (V7). -/
def bufABCD : RB :=
  ⟨[(0, ⟨frameA, 1000⟩), (1, ⟨frameB, 1010⟩), (2, ⟨frameC, 1020⟩), (3, ⟨frameD, 1030⟩)], 0, 0, true, 4, 0, 0, 4, true⟩
/-- After A B C D E (V8): `1 1 1 | 4 | 5 0 1 4`. -/
def bufBCDE : RB :=
  ⟨[(0, ⟨frameE, 1040⟩), (1, ⟨frameB, 1010⟩), (2, ⟨frameC, 1020⟩), (3, ⟨frameD, 1030⟩)], 1, 1, true, 5, 0, 1, 4, true⟩
/-- `1 3 0 | 2 | 7 3 2 4` (V9): the third arm of the occupancy. -/
def bufWrapped : RB :=
  ⟨[(0, ⟨frameE, 1040⟩), (1, ⟨frameB, 1010⟩), (2, ⟨frameC, 1020⟩), (3, ⟨frameD, 1030⟩)], 1, 3, false, 7, 3, 2, 4, true⟩

/-- The standalone buffer `b`, a request on port `p` with `now = n`. -/
def onRb (p : Port) (n : Timestamp) (b : RB) : State :=
  { State.reset with port := p, env := { Env.good with now := n }, rb := b }

/-- A `READY` adapter holding `b`, a request on port `A`; the chip answers `r` and `now = n`. -/
def ready (poll : Bool) (r : Option Frame) (n : Timestamp) (b : RB) : State :=
  { State.reset with
    st := .ready, cfgPoll := poll, cfgXtal := 1, irqReg := !poll, rx := b, port := .adpA
    env := { Env.good with now := n, receive := r } }

/-- The buffer of a unit after a next state. -/
def bufAfter (u : UnitId) (o : Out) : Option RB :=
  match o with
  | .next t => some (t.buf u)
  | .fault _ => none
  | .refused _ => none

/-- The response after a next state. -/
def respAfter (o : Out) : Option Response :=
  match o with
  | .next t => t.resp
  | .fault _ => none
  | .refused _ => none

/-- The adapter's registers and the number of chip calls. -/
structure AdpEnd where
  st     : AdpState
  irqReg : Bool
  poll   : Bool
  xtal   : Xtal
  rx     : Nat
  tx     : Nat
  calls  : Nat
  deriving DecidableEq, Repr

/-- The adapter's registers and the number of chip calls after a next state. -/
def adpAfter (o : Out) : Option AdpEnd :=
  match o with
  | .next t => some ⟨t.st, t.irqReg, t.cfgPoll, t.cfgXtal, t.rxCount, t.txCount, t.calls.length⟩
  | .fault _ => none
  | .refused _ => none

/-- The outcome is a next state. -/
def completes (o : Out) : Bool :=
  match o with
  | .next _ => true
  | .fault _ => false
  | .refused _ => false

/-! ### WellFormed smoke: an ill-formed term for each check. No `Instr` is ill formed (R108). -/

theorem test_wf_standard_parameters : Config.standard.wf = true := by decide
theorem test_wf_refuses_zero_receive_capacity : Config.receiveCapacityPositive ⟨4, 0, 0, 32, true⟩ = false := by decide
/-- `CNTW = 3` is the least allowed for `C = 4` (V21). -/
theorem test_wf_least_counter_width : Config.wf ⟨4, 4, 0, 3, true⟩ = true := by decide
theorem test_wf_refuses_narrow_value_rb : Config.occupancyFitsValue ⟨4, 1, 0, 2, true⟩ = false := by decide
theorem test_wf_refuses_narrow_value_rx : Config.occupancyFitsValue ⟨1, 4, 0, 2, true⟩ = false := by decide
theorem test_wf_refuses_length_nine : Frame.canLegal { frameE with len := 9 } = false := by decide
theorem test_wf_length_eight : Frame.canLegal frameE = true := by decide
/-- V20's frame of length 12 is carried all the same: every instruction is well formed. -/
theorem test_wf_instruction : Instr.wf (.put { frameE with len := 12 }) = true := by decide
/-- The derived widths of R7 for C = 1, 4, 5 and 0. -/
theorem test_widths : (idxw 1, idxw 4, idxw 5, occw 0, occw 1, occw 3, occw 4) = (1, 2, 3, 1, 1, 2, 3) := by decide

/-! ### Decoding: every constructor from a word written out from R92 to R96, R100 and R112 -/

theorem test_decode_put : decode .rbP 0x00000000000000A010000010001#118 = .instr (.put frameA) := by decide
theorem test_decode_put_long : decode .rbP 0xE7E6E5E4E3E2E1E080000050001#118 = .instr (.put frameE) := by decide
theorem test_decode_get : decode .rbC 0x02#118 = .instr .get := by decide
theorem test_decode_peek : decode .rbC 0x03#118 = .instr .peek := by decide
theorem test_decode_instime : decode .rbC 0x04#118 = .instr .instime := by decide
theorem test_decode_clear : decode .rbC 0x05#118 = .instr .clear := by decide
theorem test_decode_construct : decode .rbC 0x0F#118 = .instr .construct := by decide
theorem test_decode_avail : decode .rbC 0x10#118 = .instr .avail := by decide
theorem test_decode_occ : decode .rbC 0x11#118 = .instr .occ := by decide
theorem test_decode_free : decode .rbC 0x12#118 = .instr .free := by decide
theorem test_decode_full : decode .rbC 0x13#118 = .instr .full := by decide
theorem test_decode_empty : decode .rbC 0x14#118 = .instr .empty := by decide
theorem test_decode_hwm : decode .rbC 0x15#118 = .instr .hwm := by decide
theorem test_decode_putcnt : decode .rbC 0x16#118 = .instr .putcnt := by decide
theorem test_decode_getcnt : decode .rbC 0x17#118 = .instr .getcnt := by decide
theorem test_decode_ovfcnt : decode .rbC 0x18#118 = .instr .ovfcnt := by decide
/-- `0x280`, `0x180`, `0x680` of R112 and `0x580` of V55. -/
theorem test_decode_init :
    decode .adpA 0x280#118 = .instr (.init false 1) ∧ decode .adpA 0x180#118 = .instr (.init true 0) ∧
    decode .adpA 0x680#118 = .instr (.init false 3) ∧ decode .adpA 0x580#118 = .instr (.init true 2) := by decide
theorem test_decode_aavail : decode .adpA 0x81#118 = .instr .aavail := by decide
theorem test_decode_getmsg : decode .adpA 0x82#118 = .instr .getmsg := by decide
/-- The words of V50 and V51. -/
theorem test_decode_send :
    decode .adpA 0x00A000000000000221120000012383#118 = .instr (.send frameT10 false true 2) ∧
    decode .adpA 0x001000000000000221120000012383#118 = .instr (.send frameT10 true false 0) := by decide
theorem test_decode_reset : decode .adpA 0x84#118 = .instr .reset := by decide
theorem test_decode_rxcnt : decode .adpA 0x85#118 = .instr .rxcnt := by decide
theorem test_decode_txcnt : decode .adpA 0x86#118 = .instr .txcnt := by decide
theorem test_decode_pstep : decode .adpE 1#118 = .instr .pstep ∧ decode .adpE 0#118 = .noEvent := by decide
/-- V60, V61, V68. -/
theorem test_decode_reserved :
    [0x00, 0x06, 0x0E, 0x19, 0x40, 0x7F, 0x87, 0xFF].all (fun w => decode .rbC (BitVec.ofNat 118 w) = .reserved) = true := by
  decide

/-! ### The host's entry points -/

theorem test_table_words :
    decodeTableWord 112 0x01 = some (.put Frame.zero) ∧ decodeTableWord 8 0x02 = some .get ∧
    decodeTableWord 16 0x80 = some (.init false 0) ∧ decodeTableWord 8 0x01 = some .pstep ∧
    decodeTableWord 1 0x01 = some .pstep ∧ decodeTableWord 8 0x06 = none := by decide
/-- V30 through the step: `INIT` as the first operation after power-on. -/
theorem test_first_step_init :
    adpAfter (step (State.reset.withFetchWord 16 0x280)) = some ⟨.ready, true, false, 1, 0, 0, 2⟩ := by decide
/-- V40 through the step: an edge in `UNINIT` is discarded without a call. -/
theorem test_first_step_edge :
    adpAfter (step (State.reset.withFetchWord 8 1)) = some ⟨.uninit, false, false, 0, 0, 0, 0⟩ := by decide

/-! ### Ring buffer data operations -/

/-- V8: overflow. -/
theorem test_put_overflow : bufAfter .rb (exec (.put frameE) (onRb .rbP 1040 bufABCD)) = some bufBCDE := by decide
/-- V9: the third arm of the occupancy. -/
theorem test_put_wrapped :
    (bufAfter .rb (exec (.put frameA) (onRb .rbP 5 bufWrapped))).map (fun b => { b with mem := [] }) =
      some ⟨[], 2, 3, false, 8, 3, 2, 4, true⟩ := by decide
/-- V12. -/
theorem test_get_full :
    bufAfter .rb (exec .get (onRb .rbC 0 bufBCDE)) = some { bufBCDE with tail := 2, full := false, gets := 1 } ∧
    respAfter (exec .get (onRb .rbC 0 bufBCDE)) = some (.rf .ok true frameB) := by decide
/-- V14: the tail wraps from 3 to 0. -/
theorem test_get_wraps : (bufAfter .rb (exec .get (onRb .rbC 0 bufWrapped))).map (·.tail) = some 0 := by decide
/-- T5, C9: `PEEK` on a full buffer does not clear `full`. -/
theorem test_peek_full :
    bufAfter .rb (exec .peek (onRb .rbC 0 bufBCDE)) = some bufBCDE ∧
    respAfter (exec .peek (onRb .rbC 0 bufBCDE)) = some (.rf .ok true frameB) := by decide
/-- V16. -/
theorem test_instime : respAfter (exec .instime (onRb .rbC 0 bufBCDE)) = some (.rt .ok true 1010) := by decide
/-- V17: `EMPTY`, `valid = 0`; nothing is said of the timestamp. -/
theorem test_instime_empty :
    (respAfter (exec .instime (onRb .rbC 0 bufFresh))).map Response.status = some .empty := by decide
/-- The example of R146. -/
theorem test_clear :
    (bufAfter .rb (exec .clear (onRb .rbC 0 bufBCDE))).map (fun b => { b with mem := [] }) =
      some ⟨[], 0, 0, false, 5, 0, 1, 4, true⟩ := by decide
/-- V5. -/
theorem test_construct : bufAfter .rb (exec .construct (onRb .rbC 0 bufBCDE)) = some bufFresh := by decide
/-- V2. -/
theorem test_construct_fails :
    respAfter (exec .construct { onRb .rbC 0 bufBCDE with env := { Env.good with allocOk := false } }) =
      some (.rs .unusable) := by decide
/-- U12, D7, R50: a zero capacity answers `OK` whatever `alloc_ok` is, stays unusable, and with `alloc_ok` every register is 0. -/
theorem test_construct_zero_capacity :
    respAfter (exec .construct { onRb .rbC 0 bufBCDE with
      cfg := ⟨0, 4, 0, 32, true⟩, env := { Env.good with allocOk := false } }) = some (.rs .ok) ∧
    bufAfter .rb (exec .construct { onRb .rbC 0 bufBCDE with cfg := ⟨0, 4, 0, 32, true⟩ }) =
      some { bufFresh with usable := false } := by decide

/-! ### Accessors: table 2.2, "after A..E", and the third arm -/

theorem test_avail : respAfter (exec .avail (onRb .rbC 0 bufBCDE)) = some (.rl .ok true) := by decide
theorem test_occ : respAfter (exec .occ (onRb .rbC 0 bufBCDE)) = some (.rv .ok 4) := by decide
theorem test_occ_third_arm : respAfter (exec .occ (onRb .rbC 0 bufWrapped)) = some (.rv .ok 2) := by decide
theorem test_free : respAfter (exec .free (onRb .rbC 0 bufWrapped)) = some (.rv .ok 2) := by decide
theorem test_full : respAfter (exec .full (onRb .rbC 0 bufBCDE)) = some (.rl .ok true) := by decide
theorem test_empty : respAfter (exec .empty (onRb .rbC 0 bufFresh)) = some (.rl .ok true) := by decide
theorem test_hwm : respAfter (exec .hwm (onRb .rbC 0 bufBCDE)) = some (.rv .ok 4) := by decide
theorem test_putcnt : respAfter (exec .putcnt (onRb .rbC 0 bufBCDE)) = some (.rv .ok 5) := by decide
theorem test_getcnt : respAfter (exec .getcnt (onRb .rbC 0 bufWrapped)) = some (.rv .ok 3) := by decide
theorem test_ovfcnt : respAfter (exec .ovfcnt (onRb .rbC 0 bufBCDE)) = some (.rv .ok 1) := by decide

/-! ### The adapter -/

/-- V30. -/
theorem test_init :
    adpAfter (exec (.init false 1) { State.reset with port := .adpA }) = some ⟨.ready, true, false, 1, 0, 0, 2⟩ ∧
    bufAfter .adp (exec (.init false 1) { State.reset with port := .adpA }) = some bufFresh := by decide
/-- V32: unsupported crystal, no chip call, `rx` constructed. -/
theorem test_init_crystal :
    adpAfter (exec (.init false 3) { State.reset with port := .adpA }) = some ⟨.uninit, false, false, 3, 0, 0, 0⟩ ∧
    bufAfter .adp (exec (.init false 3) { State.reset with port := .adpA }) = some bufFresh := by decide
/-- R182, D34 with the default `TXC = 0`, and V36: a failed allocation of `tx` fails `INIT` only if it has entries. -/
theorem test_init_transmit_allocation :
    adpAfter (exec (.init false 1)
      { State.reset with port := .adpA, env := { Env.good with allocOkTx := false } }) =
      some ⟨.ready, true, false, 1, 0, 0, 2⟩ ∧
    respAfter (exec (.init false 1)
      { State.reset with port := .adpA, cfg := ⟨4, 4, 2, 32, true⟩, env := { Env.good with allocOkTx := false } }) =
      some (.rs .initFail) := by decide
/-- V44. -/
theorem test_aavail_polls :
    bufAfter .adp (exec .aavail (ready true (some frameA) 1000 bufFresh)) = some bufA ∧
    respAfter (exec .aavail (ready true (some frameA) 1000 bufFresh)) = some (.rl .ok true) := by decide
/-- P3: no chip call in interrupt mode. -/
theorem test_aavail_interrupt :
    bufAfter .adp (exec .aavail (ready false (some frameA) 1000 bufFresh)) = some bufFresh ∧
    respAfter (exec .aavail (ready false (some frameA) 1000 bufFresh)) = some (.rl .ok false) := by decide
/-- V47. -/
theorem test_getmsg :
    respAfter (exec .getmsg (ready false none 0 bufA)) = some (.rf .ok true frameA) ∧
    adpAfter (exec .getmsg (ready false none 0 bufA)) = some ⟨.ready, true, false, 1, 1, 0, 0⟩ := by decide
/-- V49: a forwarded `GET` does not count. -/
theorem test_getmsg_forwarded_get :
    respAfter (exec .get (ready false none 0 bufA)) = some (.rf .ok true frameA) ∧
    adpAfter (exec .get (ready false none 0 bufA)) = some ⟨.ready, true, false, 1, 0, 0, 0⟩ := by decide
/-- V50, V51: the counter and the status. -/
theorem test_send :
    adpAfter (exec (.send frameT10 false true 2) (ready false none 0 bufA)) = some ⟨.ready, true, false, 1, 0, 1, 1⟩ ∧
    respAfter (exec (.send frameT10 true false 0)
      { ready false none 0 bufA with env := { Env.good with send := false } }) = some (.rs .sendFail) := by decide
/-- V50, V51, V52 with `makeHeader` the identity: the identifiers the chip is given. -/
theorem test_send_flags :
    setFlagBits true false 0x00000123 = 0x80000123#32 ∧ setFlagBits false true 0x00000123 = 0x40000123#32 ∧
    setFlagBits true true 0x00000123 = 0xC0000123#32 := by decide
/-- V53. -/
theorem test_reset :
    adpAfter (exec .reset { ready false none 0 bufABCD with rxCount := 2, txCount := 1 }) =
      some ⟨.ready, true, false, 1, 2, 1, 3⟩ := by decide
/-- V54. -/
theorem test_reset_fails :
    adpAfter (exec .reset { ready false none 0 bufABCD with rxCount := 2, env := { Env.good with start := false } }) =
      some ⟨.uninit, false, false, 1, 2, 0, 2⟩ := by decide
/-- V56. -/
theorem test_rxcnt : respAfter (exec .rxcnt { ready false none 0 bufA with rxCount := 2 }) = some (.rv .ok 2) := by decide
/-- V57. -/
theorem test_txcnt : respAfter (exec .txcnt { ready false none 0 bufA with txCount := 1 }) = some (.rv .ok 1) := by decide
/-- V41. -/
theorem test_pstep :
    bufAfter .adp (exec .pstep { ready false (some frameA) 1000 bufFresh with port := .adpE }) = some bufA := by decide
/-- V43: an edge in polling mode is discarded. -/
theorem test_pstep_polling :
    adpAfter (exec .pstep { ready true (some frameA) 1000 bufFresh with port := .adpE }) =
      some ⟨.ready, false, true, 1, 0, 0, 0⟩ := by decide
/-- R280, R228, R182: an edge after the first micro-step of an `INIT` of a `READY`, registered adapter still runs the production step; one
after the third, which writes `UNINIT`, does not. -/
theorem test_edge_inside_init :
    (adpAfter (splitByProducer .adp (.init false 1) 0 frameA 1000 ((ready false none 0 bufFresh).withAtomic false))).map
      (·.calls) = some 3 ∧
    (adpAfter (splitByProducer .adp (.init false 1) 2 frameA 1000 ((ready false none 0 bufFresh).withAtomic false))).map
      (·.calls) = some 2 := by decide
/-- V67: `NOT_READY` comes before `UNUSABLE` and `EMPTY`. -/
theorem test_gate_order :
    respAfter (exec .get { State.reset with port := .adpA }) = some (.rf .notReady false Frame.zero) := by decide

/-! ### Response words and derived values -/

/-- P1's words of `INSTIME => ts=1010`, `GET => C`, `EMPTY`; V37, V51. -/
theorem test_response_words :
    Response.word 32 (.rt .ok true 1010) = 0x0000007E50 ∧ Response.word 32 (.rf .ok true frameC) = 0x000000000018583806000006010 ∧
    Response.word 32 (.rf .empty false Frame.zero) = 1 ∧ Response.word 32 (.rl .notReady false) = 0x02 ∧
    Response.word 32 (.rs .sendFail) = 6 := by decide
/-- V70; X of P3 has `EXT = 1`, `RTR = 0`. -/
theorem test_age_and_flags :
    age 0x00000010 0xFFFFFFF0 = 0x20#32 ∧ ext { frameA with id := 0x80012345 } = true ∧
    rtr { frameA with id := 0x80012345 } = false := by decide

/-! ### Witnesses: for every obligation with hypotheses, states and operands that meet all of them together, clause by clause -/

/-- A `READY` adapter in interrupt mode whose two buffers hold entries, with a request on port `p`. -/
def both (p : Port) (b : RB) : State := { ready false (some frameC) 7 b with rb := b, port := p }

/-- The same in the preemptible refinement. -/
def bothSplit (p : Port) (b : RB) : State := (both p b).withAtomic false

theorem witness_DecodeOfEncodeIsTheInstruction :
    Instr.wf (.send frameE true true 0xFF) = true ∧ Port.accepts .adpA (.send frameE true true 0xFF) = true ∧
    Instr.wf .pstep = true ∧ Port.accepts .adpE .pstep = true := by decide

theorem witness_EncodeOfDecodeIsTheWord : decodeCmd 0x3FFFFFFFFFFFFFFFFFFFFFFFFFFF80#118 = some (.init true 3) := by decide

theorem witness_BitsAboveFormatAreIgnored :
    decodeCmd 0x280#118 = some (.init false 1) ∧
    (0x3FFFFFFFFFFFFFFFFFFFFFFFFFFA80#118).toNat % 2 ^ (Instr.init false 1).width =
      (0x280#118).toNat % 2 ^ (Instr.init false 1).width := by decide

/-- The ends of the four reserved ranges. -/
theorem witness_ReservedOpcodeIsAnsweredAndChangesNothing :
    [0x00, 0x06, 0x0E, 0x19, 0x7F, 0x87, 0xFF].all (fun w => decodeCmd (BitVec.ofNat 118 w) = none) = true ∧
    [0x05, 0x0F, 0x18, 0x80, 0x86].all (fun w => decodeCmd (BitVec.ofNat 118 w) ≠ none) = true ∧
    Port.adpA ≠ .adpE ∧
    ({ State.reset with inputs := [.request ⟨.adpA, 0x40, Env.good⟩] } : State).inputs =
      .request ⟨.adpA, 0x40, Env.good⟩ :: [] ∧
    State.waitsFor .adpA { State.reset with inputs := [.request ⟨.adpA, 0x40, Env.good⟩] } = none := by decide

theorem witness_StepRunsTheDecodedInstruction :
    ({ State.reset with inputs := [.request ⟨.rbC, 0x0F, Env.good⟩] } : State).inputs =
      .request ⟨.rbC, 0x0F, Env.good⟩ :: [] ∧
    State.waitsFor .rbC { State.reset with inputs := [.request ⟨.rbC, 0x0F, Env.good⟩] } = none ∧
    decode .rbC 0x0F = .instr .construct := by decide

/-- A coinciding pair on a `READY` adapter. -/
def coinciding (producerFirst : Bool) : State :=
  { both .adpA bufBCDE with inputs := [.coincide .adp 1 Env.good 0x82 Env.good producerFirst] }

theorem shape_coinciding (producerFirst : Bool) : (coinciding producerFirst).Shape := by
  cases producerFirst <;> apply State.shape_of_quiet <;> decide

theorem inv_coinciding (producerFirst : Bool) : (coinciding producerFirst).Inv := by
  refine ⟨shape_coinciding producerFirst, ?_⟩
  cases producerFirst <;> (repeat' apply And.intro) <;> decide

theorem witness_CoincidingRequestsAreBothServed (producerFirst : Bool) :
    (coinciding producerFirst).Inv ∧ 1 ≤ (coinciding producerFirst).cfg.rxC ∧
    (coinciding producerFirst).inputs = .coincide .adp 1 Env.good 0x82 Env.good producerFirst :: [] :=
  ⟨inv_coinciding producerFirst, by cases producerFirst <;> decide, rfl⟩

theorem witness_NothingPresentedNothingHappens :
    State.reset.quiet ∧ State.reset.inputs = [] ∧ (0x3FE#118).getLsbD 0 = false ∧
    ({ State.reset with inputs := [.request ⟨.adpE, 0x3FE, Env.good⟩] } : State).inputs =
      .request ⟨.adpE, 0x3FE, Env.good⟩ :: [] := by decide

theorem witness_CommandWaitsForOperationInProgress :
    (State.micro .rb { bothSplit .rbC bufA with rbMicro := ⟨Frame.zero, clearActs⟩ }).todo ≠ [] ∧
    decode UnitId.rb.producerPort (encode (.put frameA)) = .instr (.put frameA) ∧
    decode UnitId.adp.producerPort (encode .pstep) = .instr .pstep := by decide

/-- `i = 0` and `i = C - 1`, with `C = 1` and `C = 3`. -/
theorem witness_IndexIncrement : 0 < 1 ∧ 0 < 3 ∧ 2 < 3 := by decide

/-- A full buffer, an empty one, one in the third arm. -/
theorem witness_OccupancyMeasuresTheWindow :
    (bufABCD.head < 4 ∧ bufABCD.tail < 4 ∧ bufABCD.full = true ∧ bufABCD.head = bufABCD.tail) ∧
    (bufFresh.head < 4 ∧ bufFresh.tail < 4 ∧ bufFresh.full = false) ∧
    (bufWrapped.head < 4 ∧ bufWrapped.tail < 4 ∧ bufWrapped.full = false) := by decide

/-- Overflowing, and with the head at the last slot. -/
theorem witness_PutStoresAndEvictsSilently :
    ((onRb .rbP 0 bufABCD).port = .rbP ∧ (onRb .rbP 0 bufABCD).rb.usable = true ∧
      (onRb .rbP 0 bufABCD).rb.head < (onRb .rbP 0 bufABCD).cfg.rbC ∧
      (onRb .rbP 0 bufABCD).rb.tail < (onRb .rbP 0 bufABCD).cfg.rbC) ∧
    { bufABCD with head := 3, full := false }.head < (onRb .rbP 0 bufABCD).cfg.rbC := by decide

/-- Both units serve `GET`, `PEEK`, `INSTIME`: an empty buffer and one whose tail entry is listed. -/
theorem witness_GetReturnsTheTailFrame :
    State.serves .rb (both .rbC bufFresh) ∧ State.serves .adp (both .adpA bufFresh) ∧
    (both .rbC bufFresh).cfg.atomic = true ∧ bufFresh.tail < 4 ∧ bufFresh.occ 4 = 0 ∧
    State.serves .rb (both .rbC bufWrapped) ∧ State.serves .adp (both .adpA bufWrapped) ∧
    (both .rbC bufWrapped).cfg.atomic = true ∧ bufWrapped.tail < 4 ∧ bufWrapped.occ 4 ≠ 0 ∧
    Memory.read bufWrapped.mem bufWrapped.tail = some ⟨frameD, 1030⟩ := by decide

theorem witness_PeekReturnsTheTailFrameAndChangesNothing :
    State.serves .adp (both .adpA bufBCDE) ∧ (both .adpA bufBCDE).cfg.atomic = true ∧ bufBCDE.tail < 4 ∧
    bufBCDE.occ 4 ≠ 0 ∧ Memory.read bufBCDE.mem bufBCDE.tail = some ⟨frameB, 1010⟩ ∧
    State.serves .adp (both .adpA bufFresh) ∧ bufFresh.tail < 4 ∧ bufFresh.occ 4 = 0 := by decide

theorem witness_InstimeReturnsTheTailTimestamp :
    State.serves .rb (both .rbC bufBCDE) ∧ (both .rbC bufBCDE).cfg.atomic = true ∧ bufBCDE.tail < 4 ∧
    bufBCDE.occ 4 ≠ 0 ∧ Memory.read bufBCDE.mem bufBCDE.tail = some ⟨frameB, 1010⟩ ∧
    State.serves .rb (both .rbC bufFresh) ∧ bufFresh.tail < 4 ∧ bufFresh.occ 4 = 0 := by decide

theorem witness_ClearEmptiesAndKeepsCounters :
    State.serves .rb (both .rbC bufBCDE) ∧ State.serves .adp (both .adpA bufBCDE) ∧
    (both .adpA bufBCDE).cfg.atomic = true := by decide

/-- A construction with either `alloc_ok`, `C >= 1`; the same with `C = 0`. -/
theorem witness_ConstructMakesAFreshOrUnusableBuffer :
    (both .rbC bufA).port = .rbC ∧ (both .rbC bufA).cfg.atomic = true ∧ (both .rbC bufA).env.allocOk = true ∧
    1 ≤ (both .rbC bufA).cfg.rbC ∧
    ({ both .rbC bufA with env := { Env.good with allocOk := false } } : State).port = .rbC ∧
    ({ both .rbC bufA with env := { Env.good with allocOk := false } } : State).cfg.atomic = true ∧
    (∀ ok : Bool,
      ({ both .rbC bufA with cfg := ⟨0, 4, 0, 32, true⟩, env := { Env.good with allocOk := ok } } : State).port = .rbC ∧
      ({ both .rbC bufA with cfg := ⟨0, 4, 0, 32, true⟩, env := { Env.good with allocOk := ok } } : State).cfg.atomic = true) := by
  decide

theorem sound_bufBCDE : bufBCDE.Sound 4 := by (repeat' apply And.intro) <;> decide
theorem sound_bufWrapped : bufWrapped.Sound 4 := by (repeat' apply And.intro) <;> decide
theorem sound_bufFresh : bufFresh.Sound 4 := by (repeat' apply And.intro) <;> decide

theorem witness_ProducerKeepsTheNewestEntries :
    ((both .rbP bufBCDE).port = .rbP ∧ (both .rbP bufBCDE).rb.usable = true ∧
      (both .rbP bufBCDE).rb.Sound (both .rbP bufBCDE).cfg.rbC) ∧
    ((both .adpE bufWrapped).st = .ready ∧ (both .adpE bufWrapped).irqReg = true ∧ (both .adpE bufWrapped).rx.usable = true ∧
      (both .adpE bufWrapped).rx.Sound (both .adpE bufWrapped).cfg.rxC ∧ (both .adpE bufWrapped).env.receive = some frameC) :=
  ⟨⟨rfl, rfl, sound_bufBCDE⟩, ⟨rfl, rfl, rfl, sound_bufWrapped, rfl⟩⟩

theorem witness_ConsumerTakesTheOldestEntry :
    State.serves .rb (both .rbC bufWrapped) ∧ State.serves .adp (both .adpA bufWrapped) ∧
    (both .rbC bufWrapped).cfg.atomic = true ∧ bufWrapped.Sound 4 ∧
    bufWrapped.contents 4 = ⟨frameD, 1030⟩ :: [⟨frameE, 1040⟩] ∧ bufFresh.Sound 4 ∧ bufFresh.contents 4 = [] :=
  ⟨by decide, by decide, rfl, sound_bufWrapped, by decide, sound_bufFresh, by decide⟩

theorem witness_PutsIntoAFreshBuffer : 1 ≤ 1 := by decide

theorem shape_both (p : Port) : (both p bufBCDE).Shape := by
  cases p <;> apply State.shape_of_quiet <;> decide

theorem inv_both (p : Port) : (both p bufBCDE).Inv := by
  refine ⟨shape_both p, ?_⟩
  cases p <;> (repeat' apply And.intro) <;> decide

theorem accounted_bufBCDE : bufBCDE.Accounted 4 32 := by decide

/-- The buffer after V8 and a `CLEAR`: usable, and the law broken. -/
def bufCleared : RB := { bufBCDE with head := 0, tail := 0, full := false }

theorem inv_cleared (p : Port) : (both p bufCleared).Inv := by
  refine ⟨?_, ?_⟩
  · cases p <;> apply State.shape_of_quiet <;> decide
  · cases p <;> (repeat' apply And.intro) <;> decide

/-- A kept law (`PUT` on the standalone buffer); a law that starts with `INIT` of a receive buffer that was unusable; a law that starts
again with `CONSTRUCT`, `INIT`, `RESET` of a usable buffer after a `CLEAR` had broken it. -/
theorem witness_AccountingLawKeptByAllButClear :
    (both .rbP bufBCDE).Inv ∧ (∃ t, exec (.put frameA) (both .rbP bufBCDE) = .next t ∧ (t.buf .rb).usable = true) ∧
    ((both .rbP bufBCDE).buf .rb).Accounted ((both .rbP bufBCDE).cap .rb) (both .rbP bufBCDE).cfg.cntw ∧
    (∃ t, exec (.init false 1) { State.reset with port := .adpA } = .next t ∧ (t.buf .adp).usable = true) ∧
    (State.reset.buf .adp).usable = false ∧
    bufCleared.usable = true ∧ ¬ bufCleared.Accounted 4 32 ∧
    ((both .rbC bufCleared).Inv ∧ (both .rbC bufCleared).constructs .rb .construct ∧
      ∃ t, exec .construct (both .rbC bufCleared) = .next t ∧ (t.buf .rb).usable = true) ∧
    ((both .adpA bufCleared).Inv ∧ (both .adpA bufCleared).constructs .adp (.init false 1) ∧
      ∃ t, exec (.init false 1) (both .adpA bufCleared) = .next t ∧ (t.buf .adp).usable = true) ∧
    ((both .adpA bufCleared).constructs .adp .reset ∧
      ∃ t, exec .reset (both .adpA bufCleared) = .next t ∧ (t.buf .adp).usable = true) :=
  ⟨inv_both .rbP, ⟨_, rfl, rfl⟩, accounted_bufBCDE, ⟨_, rfl, rfl⟩, rfl, rfl, by decide,
    ⟨inv_cleared .rbC, .inl ⟨rfl, rfl, rfl⟩, _, rfl, rfl⟩,
    ⟨inv_cleared .adpA, .inr ⟨rfl, rfl, .inl ⟨false, 1, rfl⟩⟩, _, rfl, rfl⟩, .inr ⟨rfl, rfl, .inr ⟨rfl, rfl⟩⟩, _, rfl, rfl⟩

theorem witness_HighWaterMarkNeverFalls :
    (∃ t, exec .clear (both .rbC bufBCDE) = .next t) ∧ (∃ t, exec .getmsg (bothSplit .adpA bufBCDE) = .next t) :=
  ⟨⟨_, rfl⟩, ⟨_, rfl⟩⟩

/-- The accessors' hypotheses, on a full and on an empty buffer, on both ports. -/
theorem witness_BooleanAccessorsAnswer :
    State.serves .rb (both .rbC bufBCDE) ∧ State.serves .adp (both .adpA bufFresh) ∧
    (both .rbC bufBCDE).cfg.atomic = true ∧ bufBCDE.Sound 4 ∧ bufFresh.Sound 4 :=
  ⟨by decide, by decide, rfl, sound_bufBCDE, sound_bufFresh⟩

theorem witness_OccupancyAccessorsAnswer :
    State.serves .adp (both .adpA bufBCDE) ∧ State.serves .rb (both .rbC bufFresh) ∧
    (both .adpA bufBCDE).cfg.atomic = true ∧ bufBCDE.Sound 4 ∧ bufFresh.Sound 4 :=
  ⟨by decide, by decide, rfl, sound_bufBCDE, sound_bufFresh⟩

theorem witness_CounterAccessorsAnswer :
    State.serves .rb (both .rbC bufWrapped) ∧ State.serves .adp (both .adpA bufWrapped) ∧
    (both .adpA bufWrapped).cfg.atomic = true := by decide

theorem witness_UnusableBufferRefusesCommands :
    ({ State.reset with port := .rbP } : State).rb.usable = false ∧
    Instr.instime ∈ consumerInstrs ∧ responseFormat .instime = some .rt ∧
    (both .rbC RB.powerOn).port = UnitId.rb.consumerPort ∧ ((both .rbC RB.powerOn).buf .rb).usable = false ∧
    (both .adpA RB.powerOn).port = UnitId.adp.consumerPort ∧ (both .adpA RB.powerOn).st = .ready ∧
    ((both .adpA RB.powerOn).buf .adp).usable = false := by decide

/-- `RESET` and a forwarded `INSTIME` in `UNINIT`. -/
theorem witness_UninitialisedAdapterRefusesCommands :
    ({ State.reset with port := .adpA } : State).port = .adpA ∧ State.reset.st = .uninit ∧
    Port.accepts .adpA .reset = true ∧ (∀ p x, Instr.reset ≠ .init p x) ∧ responseFormat .reset = some .rs ∧
    Port.accepts .adpA .instime = true ∧ (∀ p x, Instr.instime ≠ .init p x) ∧ responseFormat .instime = some .rt := by
  refine ⟨rfl, rfl, rfl, ?_, rfl, rfl, ?_, rfl⟩ <;> intro _ _ h <;> cases h

theorem witness_WrongPortIsAnsweredAndChangesNothing :
    Instr.construct ≠ .pstep ∧ (both .adpA bufA).port.accepts .construct = false ∧
    Instr.put frameA ≠ .pstep ∧ (both .rbC bufA).port.accepts (.put frameA) = false := by decide

theorem witness_ForwardedCommandActsOnTheReceiveBuffer :
    Instr.get ∈ consumerInstrs ∧ Instr.ovfcnt ∈ consumerInstrs ∧ (both .adpA bufA).applicationReady := by decide

/-- Every step succeeds; the crystal fails; `alloc_ok_tx = 0` with `TXC = 0` and with `TXC = 2`. -/
theorem witness_InitInitialisesOrFails :
    ({ State.reset with port := .adpA } : State).port = .adpA ∧ State.reset.cfg.atomic = true ∧ 1 ≤ State.reset.cfg.rxC ∧
    State.initSucceeds 2 State.reset ∧ ¬ State.initSucceeds 3 State.reset ∧
    State.initSucceeds 2 { State.reset with env := { Env.good with allocOkTx := false } } ∧
    ¬ State.initSucceeds 2 { State.reset with cfg := ⟨4, 4, 2, 32, true⟩, env := { Env.good with allocOkTx := false } } := by
  decide

theorem witness_ResetReinitialisesWithStoredOperands :
    (both .adpA bufA).port = .adpA ∧ (both .adpA bufA).st = .ready ∧ (both .adpA bufA).cfg.atomic = true ∧
    1 ≤ (both .adpA bufA).cfg.rxC ∧
    ({ State.reset with port := .adpA } : State).port = .adpA ∧ State.reset.st ≠ .ready := by decide

theorem witness_ZeroReceiveCapacityIsRefused :
    ({ both .adpA bufA with cfg := ⟨4, 0, 0, 32, true⟩ } : State).cfg.rxC = 0 ∧
    ({ both .adpA bufA with cfg := ⟨4, 0, 0, 32, true⟩ } : State).applicationReady := by decide

/-- Interrupt mode; polling with nothing pending; polling with a frame and a full buffer. -/
theorem witness_AavailPollsInPollingModeOnly :
    ((ready false none 0 bufA).applicationReady ∧ (ready false none 0 bufA).cfgPoll = false) ∧
    ((ready true none 0 bufA).applicationReady ∧ (ready true none 0 bufA).cfgPoll = true ∧
      (ready true none 0 bufA).env.receive = none) ∧
    ((ready true (some frameA) 0 bufBCDE).applicationReady ∧ (ready true (some frameA) 0 bufBCDE).cfg.atomic = true ∧
      (ready true (some frameA) 0 bufBCDE).env.receive = some frameA ∧ (ready true (some frameA) 0 bufBCDE).rx.usable = true ∧
      (ready true (some frameA) 0 bufBCDE).rx.Sound (ready true (some frameA) 0 bufBCDE).cfg.rxC) :=
  ⟨by decide, by decide, by decide, rfl, rfl, rfl, sound_bufBCDE⟩

theorem witness_GetmsgTakesAndCounts :
    (both .adpA bufFresh).applicationReady ∧ (both .adpA bufFresh).cfg.atomic = true ∧ bufFresh.usable = true ∧
    bufFresh.tail < 4 ∧ bufFresh.occ 4 = 0 ∧
    (both .adpA bufWrapped).applicationReady ∧ bufWrapped.usable = true ∧ bufWrapped.tail < 4 ∧ bufWrapped.occ 4 ≠ 0 ∧
    Memory.read bufWrapped.mem bufWrapped.tail = some ⟨frameD, 1030⟩ := by decide

theorem witness_SendSubmitsAndCountsSuccess :
    (both .adpA bufA).port = .adpA ∧ (both .adpA bufA).st = .ready ∧ (both .adpA bufA).cfg.atomic = true ∧
    ({ State.reset with port := .adpA } : State).port = .adpA ∧ State.reset.st ≠ .ready := by decide

theorem witness_MessageCountersAreRead :
    (both .adpA bufA).port = .adpA ∧ (both .adpA bufA).st = .ready ∧ (both .adpA bufA).cfg.atomic = true ∧
    ({ State.reset with port := .adpA } : State).st ≠ .ready := by decide

/-- Discarded in `UNINIT` and in polling mode; nothing pending; a frame. -/
theorem witness_EdgeRunsOneProductionStepOrIsDiscarded :
    ¬ (State.reset.st = .ready ∧ State.reset.irqReg = true) ∧
    ¬ ((ready true none 0 bufA).st = .ready ∧ (ready true none 0 bufA).irqReg = true) ∧
    ((ready false none 0 bufA).st = .ready ∧ (ready false none 0 bufA).irqReg = true ∧
      (ready false none 0 bufA).env.receive = none) ∧
    ((both .adpE bufA).st = .ready ∧ (both .adpE bufA).irqReg = true ∧ (both .adpE bufA).env.receive = some frameC ∧
      (both .adpE bufA).rx.usable = true ∧ (both .adpE bufA).rx.head < (both .adpE bufA).cfg.rxC) := by decide

/-- The hypothesis "exec answers next", shared by the rules over all instructions, on each port. -/
theorem witness_exec_answers_next :
    (∃ t, exec .reset (both .adpA bufA) = .next t) ∧ (∃ t, exec (.put frameA) (both .rbP bufA) = .next t) ∧
    (∃ t, exec .getmsg (bothSplit .adpA bufA) = .next t) ∧ (∃ t, exec .pstep (both .adpE bufA) = .next t) :=
  ⟨⟨_, rfl⟩, ⟨_, rfl⟩, ⟨_, rfl⟩, ⟨_, rfl⟩⟩

theorem witness_WritersOfTheAdapterRegisters :
    (∃ t, exec .getmsg (both .adpA bufA) = .next t) ∧ (∀ p x, Instr.getmsg ≠ .init p x) ∧ Instr.getmsg ≠ .reset ∧
    (∀ f r e p, Instr.getmsg ≠ .send f r e p) :=
  ⟨⟨_, rfl⟩, fun _ _ h => (by cases h), fun h => (by cases h), fun _ _ _ _ h => (by cases h)⟩

theorem witness_WritersOfTheBufferRegisters :
    (∃ t, exec .peek (both .rbC bufA) = .next t) ∧ Instr.peek ≠ .construct ∧ (∀ f, Instr.peek ≠ .put f) ∧
    Instr.peek ≠ .clear ∧ Instr.peek ≠ .get :=
  ⟨⟨_, rfl⟩, fun h => (by cases h), fun _ h => (by cases h), fun h => (by cases h), fun h => (by cases h)⟩

theorem witness_UnitsAreIndependent :
    ((∃ t, exec .clear (both .adpA bufA) = .next t) ∧ (both .adpA bufA).port = .adpA) ∧
    ((∃ t, exec .clear (both .rbC bufA) = .next t) ∧ (both .rbC bufA).port = .rbC ∧ Instr.clear ≠ .pstep) :=
  ⟨⟨⟨_, rfl⟩, rfl⟩, ⟨_, rfl⟩, rfl, fun h => (by cases h)⟩

theorem witness_OneResponsePerCommand :
    (both .adpA bufA).cfg.atomic = true ∧ (∃ t, exec .pstep (both .adpA bufA) = .next t) ∧
    (∃ t, exec .get (both .adpA bufA) = .next t) ∧ (both .adpA bufA).port.accepts .get = true ∧
    (∃ t, exec .construct (both .adpA bufA) = .next t) ∧ (both .adpA bufA).port.accepts .construct = false :=
  ⟨rfl, ⟨_, rfl⟩, ⟨_, rfl⟩, rfl, ⟨_, rfl⟩, rfl⟩

/-- `GET` on an empty buffer. -/
theorem witness_FailureChangesNothing :
    (both .rbC bufFresh).cfg.atomic = true ∧
    (∃ t, exec .get (both .rbC bufFresh) = .next t ∧ t.resp = some (.rf .empty false Frame.zero)) ∧
    Instr.get ≠ .construct ∧ Instr.get ≠ .pstep ∧ Response.status (.rf .empty false Frame.zero) ≠ .ok ∧
    Response.status (.rf .empty false Frame.zero) ≠ .initFail :=
  ⟨rfl, ⟨_, rfl, rfl⟩, fun h => (by cases h), fun h => (by cases h), by decide, by decide⟩

theorem witness_OnlyProductionStepsReceive :
    (∃ t, exec .pstep (both .adpE bufA) = .next t ∧ t.calls = [.receive]) ∧
    (∃ t, exec .aavail (ready true none 0 bufA) = .next t ∧ t.calls = [.receive]) :=
  ⟨⟨_, rfl, rfl⟩, ⟨_, rfl, rfl⟩⟩

theorem witness_StepKeepsTheInvariant :
    (coinciding true).Inv ∧ ∃ t, step (coinciding true) = .next t := ⟨inv_coinciding true, ⟨_, rfl⟩⟩

/-- A `GET` in progress in the preemptible refinement. -/
def getInProgress : State := { bothSplit .rbC bufBCDE with rbMicro := ⟨frameB, getActs.drop 2⟩ }

theorem shape_getInProgress : getInProgress.Shape :=
  ⟨by decide, by decide, by decide, by decide, by decide, by decide, by decide,
    @of_decide_eq_true _ (BufFlags.decideSettles ..) rfl, @of_decide_eq_true _ (BufFlags.decideSettles ..) rfl,
    @of_decide_eq_true _ (BufFlags.decideSettles ..) rfl, @of_decide_eq_true _ (AdpRegs.decideSettles ..) rfl, by decide⟩

/-- An `INIT` in progress: the operands are stored, `st` is still `READY`. -/
def initInProgress : State :=
  { bothSplit .adpA bufBCDE with
    cfgPoll := true, cfgXtal := 3, adpMicro := ⟨Frame.zero, State.initActs true 3 (bothSplit .adpA bufBCDE)⟩ }

theorem shape_initInProgress : initInProgress.Shape :=
  ⟨by decide, by decide, by decide, by decide, by decide, by decide, by decide,
    @of_decide_eq_true _ (BufFlags.decideSettles ..) rfl, @of_decide_eq_true _ (BufFlags.decideSettles ..) rfl,
    @of_decide_eq_true _ (BufFlags.decideSettles ..) rfl, @of_decide_eq_true _ (AdpRegs.decideSettles ..) rfl, by decide⟩

theorem witness_StepKeepsTheShape :
    (getInProgress.Shape ∧ ∃ t, step getInProgress = .next t) ∧
    (initInProgress.Shape ∧ ¬ initInProgress.adpRegs.Agree ∧
      ∃ t, step { initInProgress with inputs := [.advance .adp] } = .next t) :=
  ⟨⟨shape_getInProgress, _, rfl⟩, shape_initInProgress, by decide, _, rfl⟩

theorem witness_StepAlwaysCompletes : (coinciding false).Inv ∧ 1 ≤ (coinciding false).cfg.rxC :=
  ⟨inv_coinciding false, by decide⟩

theorem witness_MicroStepsAloneEqualTheAtomicOperation :
    (Instr.getmsg ≠ .pstep ∧ Instr.reset ≠ .pstep ∧ (bothSplit .adpA bufBCDE).port = UnitId.adp.consumerPort ∧
      (bothSplit .adpA bufBCDE).micro .adp = Micro.idle) ∧
    (Instr.clear ≠ .pstep ∧ Instr.construct ≠ .pstep ∧ (bothSplit .rbC bufBCDE).port = UnitId.rb.consumerPort ∧
      (bothSplit .rbC bufBCDE).micro .rb = Micro.idle) := by decide

/-- One, `C - 2`, `C - 1` and `C` entries; the gaps each allows. -/
theorem harmless_gaps :
    HarmlessGap 4 1 1 ∧ HarmlessGap 4 2 2 ∧ HarmlessGap 4 3 1 ∧ ¬ HarmlessGap 4 3 2 ∧ HarmlessGap 4 4 0 ∧ HarmlessGap 4 4 3 ∧
    HarmlessGap 4 4 4 ∧ ¬ HarmlessGap 4 4 1 ∧ ¬ HarmlessGap 4 4 2 ∧ HarmlessGap 1 1 2 ∧ ¬ HarmlessGap 1 1 1 := by
  simp [HarmlessGap]

/-- A `GET` of two entries of four on either unit, in the gap `g2`-`g3`; a `GET` of a full buffer, in its last gap; a `GETMSG` of a full
buffer, in the gap before its response; a `GET` of a full buffer with `C = 1`, in the gap `g2`-`g3`. -/
theorem witness_HarmlessGapsOfGet :
    ((bothSplit .rbC bufWrapped).cfg.atomic = false ∧ (bothSplit .rbC bufWrapped).micro .rb = Micro.idle ∧
      State.serves .rb (bothSplit .rbC bufWrapped) ∧ bufWrapped.Sound 4 ∧ 1 ≤ bufWrapped.occ 4 ∧
      HarmlessGap 4 (bufWrapped.occ 4) 2) ∧
    ((bothSplit .adpA bufWrapped).micro .adp = Micro.idle ∧ State.serves .adp (bothSplit .adpA bufWrapped)) ∧
    (State.serves .rb (bothSplit .rbC bufBCDE) ∧ bufBCDE.Sound 4 ∧ 1 ≤ bufBCDE.occ 4 ∧ HarmlessGap 4 (bufBCDE.occ 4) 4) ∧
    (State.serves .adp (bothSplit .adpA bufBCDE) ∧ HarmlessGap 4 (bufBCDE.occ 4) 5 ∧ 5 ≤ 5) ∧
    (RB.Sound 1 ⟨[(0, ⟨frameA, 1000⟩)], 0, 0, true, 1, 0, 0, 1, true⟩ ∧
      HarmlessGap 1 (RB.occ 1 ⟨[(0, ⟨frameA, 1000⟩)], 0, 0, true, 1, 0, 0, 1, true⟩) 2) := by
  refine ⟨⟨rfl, rfl, by decide, sound_bufWrapped, by decide, by decide⟩, by decide, ⟨by decide, sound_bufBCDE, by decide, by decide⟩,
    by decide, ?_, by decide⟩
  (repeat' apply And.intro) <;> decide

/-- `PEEK` of a full buffer; an accessor of an empty one; `AAVAIL` in interrupt mode and `RXCNT` on the adapter. -/
theorem witness_HarmlessGapOfSingleReads :
    (Instr.peek ∈ singleReadInstrs ∧ (bothSplit .rbC bufBCDE).cfg.atomic = false ∧
      (bothSplit .rbC bufBCDE).micro .rb = Micro.idle ∧ State.serves .rb (bothSplit .rbC bufBCDE) ∧ bufBCDE.Sound 4 ∧
      1 ≤ bufBCDE.occ 4) ∧
    (Instr.ovfcnt ∈ singleReadInstrs ∧ State.serves .rb (bothSplit .rbC bufFresh) ∧ bufFresh.Sound 4 ∧
      ¬ (Instr.ovfcnt = .peek ∨ Instr.ovfcnt = .instime)) ∧
    ((bothSplit .adpA bufBCDE).cfgPoll = false ∧ (bothSplit .adpA bufBCDE).micro .adp = Micro.idle ∧
      State.serves .adp (bothSplit .adpA bufBCDE) ∧ ¬ (Instr.aavail = .peek ∨ Instr.aavail = .instime) ∧
      ¬ (Instr.rxcnt = .peek ∨ Instr.rxcnt = .instime)) :=
  ⟨⟨by decide, rfl, rfl, by decide, sound_bufBCDE, by decide⟩, ⟨by decide, by decide, sound_bufFresh, by decide⟩, by decide⟩

/-- An `INIT` after its third micro-step and a `RESET` after its first, of a `READY`, registered adapter. -/
theorem witness_EdgeBetweenUninitAndReadyIsDiscarded :
    (bothSplit .adpA bufBCDE).port = .adpA ∧ (bothSplit .adpA bufBCDE).cfg.atomic = false ∧
    (bothSplit .adpA bufBCDE).adpMicro = Micro.idle ∧ 1 ≤ (bothSplit .adpA bufBCDE).cfg.rxC ∧
    ((∃ poll xtal, Instr.init false 1 = .init poll xtal) ∧ 2 ≤ 2) ∧
    (Instr.reset = .reset ∧ (bothSplit .adpA bufBCDE).st = .ready) ∧ (bothSplit .adpA bufBCDE).irqReg = true :=
  ⟨rfl, rfl, rfl, by decide, ⟨⟨false, 1, rfl⟩, by decide⟩, ⟨rfl, rfl⟩, rfl⟩

end Sys2Proof.Tests
end

/-! ## Scope: what a step serves, and that it always completes -/

namespace Sys2Proof.Machine

/-! ### The step by what is presented -/

/-- With nothing presented, the operation in progress goes on or the block idles. -/
theorem step_of_nothing {s : State} (hn : nextInput s.inputs = .nothing) : step s = s.clearOutputs.proceed := by
  simp [step, hn]

/-- An ordered micro-step is taken (R280). -/
theorem step_of_advance {s : State} {u : UnitId} {rest : List Input} (hn : nextInput s.inputs = .advance u rest) :
    step s = (s.clearOutputs.withInputs rest).microStep u := by
  simp [step, hn]

/-- A request that waits for no operation in progress is sampled and served (R8, R11). -/
theorem step_of_request {s : State} {r : Request} {rest : List Input} (hn : nextInput s.inputs = .request r rest)
    (hw : s.waitsFor r.port = none) : step s = (s.clearOutputs.sample r rest).serve r := by
  have hw' : s.clearOutputs.waitsFor r.port = none := hw
  simp [step, hn, hw']

/-- A request on a port that is no consumer port waits for nothing (R280). -/
theorem State.waitsFor_of_not_consumer {p : Port} (hp : consumerUnit p = none) (s : State) : s.waitsFor p = none := by
  simp [State.waitsFor, hp]

/-- A micro-step of a unit with no operation in progress does nothing. -/
theorem State.microStep_of_idle {u : UnitId} {s : State} (h : (s.micro u).todo = []) : s.microStep u = .next s := by
  simp [State.microStep, h]

/-! ### States with no operation in progress -/

theorem State.quiet.micro_todo {s : State} (h : s.quiet) (u : UnitId) : (s.micro u).todo = [] := by
  cases u
  · exact h.1
  · exact h.2

theorem State.quiet.not_busy {s : State} (h : s.quiet) (u : UnitId) : s.busy u = false := by
  simp [State.busy, h.micro_todo u]

theorem State.quiet.waitsFor_eq_none {s : State} (h : s.quiet) (p : Port) : s.waitsFor p = none := by
  unfold State.waitsFor
  split
  · rfl
  · simp [h.not_busy]

/-- With nothing presented and nothing in progress the block idles. -/
theorem State.quiet.proceed_eq {s : State} (h : s.quiet) : s.proceed = .next s := by
  simp [State.proceed, h.not_busy, State.microStep_of_idle (h.micro_todo .adp)]

/-! ### What serving reads of the invariant -/

theorem State.Inv.atomic {s : State} (h : s.Inv) : s.cfg.atomic = true := h.2.1

theorem State.Inv.shape {s : State} (h : s.Inv) : s.Shape := h.1

theorem State.Inv.quiet {s : State} (h : s.Inv) : s.quiet := by
  obtain ⟨-, -, -, -, -, -, -, -, -, -, -, hq⟩ := h.shape
  exact hq h.atomic

/-- A usable buffer of a unit meets the invariant of R32. -/
theorem State.Inv.sound {s : State} (h : s.Inv) (u : UnitId) (hu : (s.buf u).usable = true) :
    (s.buf u).Sound (s.cap u) := by
  obtain ⟨-, -, hrb, hrx, -⟩ := h
  cases u
  · exact hrb hu
  · exact hrx hu

/-- The invariant speaks of no output, latch or input, so taking up a request keeps it. -/
theorem State.Inv.sampled {s : State} (h : s.Inv) (r : Request) (rest : List Input) :
    (s.clearOutputs.sample r rest).Inv := h

theorem State.Inv.useFree {s : State} (h : s.Inv) (n : Nat) : (s.useFree n).Inv := h

/-! ### Operations of a sound buffer find the slot they read or write -/

/-- A buffer that holds an entry holds one at `tail` (R32). -/
theorem RB.tail_mem_window {c : Nat} {b : RB} (ht : b.tail < c) (h : b.occ c ≠ 0) : b.tail ∈ b.window c :=
  List.mem_map.2 ⟨0, List.mem_range.2 (Nat.pos_of_ne_zero h), Nat.mod_eq_of_lt ht⟩

/-- A read at `tail` of a sound buffer that holds an entry never faults (R32, R50). -/
theorem RB.Sound.tailEntry_ok {c : Nat} {b : RB} (h : b.Sound c) (ho : b.occ c ≠ 0) : ∃ e, b.tailEntry c = .ok e := by
  obtain ⟨-, -, ht, -, -, -, -, -, hslots⟩ := h
  obtain ⟨e, he⟩ := Option.isSome_iff_exists.1 (hslots _ (RB.tail_mem_window ht ho))
  exact ⟨e, RB.tailEntry_of_read ht he⟩

theorem RB.Sound.get_ok {c : Nat} {b : RB} (h : b.Sound c) (w : Nat) : ∃ p, b.get c w = .ok p := by
  by_cases ho : b.occ c = 0
  · simp [RB.get, ho]
  · obtain ⟨e, he⟩ := h.tailEntry_ok ho
    simp [RB.get, ho, he]

theorem RB.Sound.peek_ok {c : Nat} {b : RB} (h : b.Sound c) : ∃ p, b.peek c = .ok p := by
  by_cases ho : b.occ c = 0
  · simp [RB.peek, ho]
  · obtain ⟨e, he⟩ := h.tailEntry_ok ho
    simp [RB.peek, ho, he]

theorem RB.Sound.instime_ok {c : Nat} {b : RB} (h : b.Sound c) (x : Timestamp) : ∃ p, b.instime c x = .ok p := by
  by_cases ho : b.occ c = 0
  · simp [RB.instime, ho]
  · obtain ⟨e, he⟩ := h.tailEntry_ok ho
    simp [RB.instime, ho, he]

/-- A `PUT` finds the slot at `head`, or the buffer is unusable and it stores nothing (R132, R148). -/
theorem RB.put_ok_of_sound {c : Nat} {b : RB} (h : b.usable = true → b.Sound c) (w : Nat) (f : Frame) (t : Timestamp) :
    ∃ p, b.put c w f t = .ok p := by
  cases hu : b.usable
  · simp [RB.put, hu]
  · obtain ⟨-, hhead, -⟩ := h hu
    simp [RB.put, hu, hhead]

/-! ### Completion of the shared operations -/

/-- The operation has a next state: it neither faults nor is refused (R224). -/
abbrev Completes (o : Out) : Prop := ∃ t, o = .next t

theorem State.answer_completes (r : Response) (s : State) : Completes (s.answer r) := ⟨_, rfl⟩

theorem State.wrongPort_completes (s : State) : Completes s.wrongPort := ⟨_, rfl⟩

theorem State.whenReady_completes {fmt : RespFormat} {k : State → Out} {s : State}
    (h : s.st = .ready → Completes (k s)) : Completes (s.whenReady fmt k) := by
  rw [State.whenReady_eq]
  split
  · exact h ‹_›
  · exact ⟨_, rfl⟩

theorem State.onApplicationPort_completes {fmt : RespFormat} {k : State → Out} {s : State} (h : Completes (k s)) :
    Completes (s.onApplicationPort fmt k) := by
  unfold State.onApplicationPort
  split
  · exact State.whenReady_completes fun _ => h
  all_goals exact s.wrongPort_completes

theorem State.finishBuf_completes {u : UnitId} {r : Except Fault (RB × Response)} {s : State} (h : ∃ p, r = .ok p) :
    Completes (s.finishBuf u r) := by
  obtain ⟨p, rfl⟩ := h
  exact ⟨_, rfl⟩

/-- With `ATOMIC = true` an operation runs whole (R63). -/
theorem State.wholeOrSplit_of_atomic {s : State} (ha : s.cfg.atomic = true) (u : UnitId) (whole : State → Out)
    (acts : List MicroAct) : s.wholeOrSplit u whole acts = whole s := by
  simp [State.wholeOrSplit, ha]

theorem State.onBuffer_completes {u : UnitId} {fmt : RespFormat} {whole : RB → Except Fault (RB × Response)}
    {acts : List MicroAct} {s : State} (ha : s.cfg.atomic = true)
    (h : (s.buf u).usable = true → ∃ p, whole (s.buf u) = .ok p) : Completes (s.onBuffer u fmt whole acts) := by
  unfold State.onBuffer
  split
  · rw [State.wholeOrSplit_of_atomic ha]
    exact State.finishBuf_completes (h ‹_›)
  · exact s.answer_completes _

/-- A consumer operation completes in a state of the invariant if it does on every sound buffer. -/
theorem State.onConsumerPort_completes {fmt : RespFormat} {whole : Nat → Nat → RB → Except Fault (RB × Response)}
    {acts : List MicroAct} {s : State} (hs : s.Inv)
    (h : ∀ c b, b.Sound c → ∃ p, whole c s.cfg.cntw b = .ok p) : Completes (s.onConsumerPort fmt whole acts) := by
  have onBuffer (u : UnitId) : Completes (s.onBuffer u fmt (whole (s.cap u) s.cfg.cntw) acts) :=
    State.onBuffer_completes hs.atomic fun hu => h _ _ (hs.sound u hu)
  unfold State.onConsumerPort
  split
  · exact onBuffer .rb
  · exact State.whenReady_completes fun _ => onBuffer .adp
  all_goals exact s.wrongPort_completes

theorem State.accessor_completes {s : State} (hs : s.Inv) (q : Query) : Completes (s.accessor q) :=
  State.onConsumerPort_completes hs fun _ _ _ => ⟨_, rfl⟩

/-- A production step finds the slot it stores a delivered frame in (R200). -/
theorem State.productionStep_completes {s : State} (hs : s.Inv) : Completes s.productionStep := by
  unfold State.productionStep
  simp only [State.call_rx, State.call_cfg, State.call_env]
  split
  · exact ⟨_, rfl⟩
  · rename_i f _
    obtain ⟨p, hp⟩ : ∃ p, s.rx.put s.cfg.rxC s.cfg.cntw f s.env.now = .ok p :=
      RB.put_ok_of_sound (hs.sound .adp) _ _ _
    simp only [hp]
    exact ⟨_, rfl⟩

theorem State.takeEdge_completes {s : State} (hs : s.Inv) : Completes s.takeEdge := by
  unfold State.takeEdge
  split
  · split
    · exact State.productionStep_completes hs
    · exact ⟨_, rfl⟩
  · exact ⟨_, rfl⟩

theorem State.startChip_completes (s : State) : Completes s.startChip := by
  unfold State.startChip
  dsimp only
  split
  · split <;> exact State.answer_completes _ _
  · exact State.answer_completes _ _

theorem State.initBody_completes (s : State) : Completes s.initBody := by
  unfold State.initBody
  dsimp only
  split
  · split
    · exact State.answer_completes _ _
    · exact State.startChip_completes _
  · exact State.answer_completes _ _

/-- An initialisation is refused for `RXC = 0` only (U12). -/
theorem State.initialise_completes {poll : Bool} {xtal : Xtal} {whole : State → Out} {before : List MicroAct} {s : State}
    (hs : s.Inv) (hrx : 1 ≤ s.cfg.rxC) (h : Completes (whole s)) :
    Completes (s.initialise poll xtal whole before) := by
  have hne : s.cfg.rxC ≠ 0 := Nat.one_le_iff_ne_zero.1 hrx
  simpa [State.initialise, hne, hs.atomic] using h

/-! ### Completion of the operations -/

theorem execPut_completes {s : State} (hs : s.Inv) (f : Frame) : Completes (execPut f s) := by
  unfold execPut
  split
  · exact State.finishBuf_completes (RB.put_ok_of_sound (hs.sound .rb) _ _ _)
  all_goals exact s.wrongPort_completes

theorem execConstruct_completes {s : State} (hs : s.Inv) : Completes (execConstruct s) := by
  unfold execConstruct
  split
  · dsimp only
    rw [State.wholeOrSplit_of_atomic (hs.useFree _).atomic]
    exact State.answer_completes _ _
  all_goals exact s.wrongPort_completes

theorem execInit_completes {s : State} (hs : s.Inv) (hrx : 1 ≤ s.cfg.rxC) (poll : Bool) (xtal : Xtal) :
    Completes (execInit poll xtal s) := by
  unfold execInit
  split
  · exact State.initialise_completes hs hrx (State.initBody_completes _)
  all_goals exact s.wrongPort_completes

theorem execReset_completes {s : State} (hs : s.Inv) (hrx : 1 ≤ s.cfg.rxC) : Completes (execReset s) :=
  State.onApplicationPort_completes (State.initialise_completes hs hrx (State.initBody_completes _))

theorem State.adapterAvailable_completes {s : State} (hs : s.Inv) : Completes s.adapterAvailable := by
  unfold State.adapterAvailable
  split
  · obtain ⟨t, ht⟩ := State.productionStep_completes hs
    simp only [ht]
    exact t.answer_completes _
  · rw [State.wholeOrSplit_of_atomic hs.atomic]
    exact s.answer_completes _

theorem State.takeMessage_completes {s : State} (hs : s.Inv) : Completes s.takeMessage := by
  unfold State.takeMessage
  split
  · rename_i hu
    obtain ⟨p, hp⟩ : ∃ p, s.rx.get s.cfg.rxC s.cfg.cntw = .ok p := (hs.sound .adp hu).get_ok _
    rw [State.wholeOrSplit_of_atomic hs.atomic]
    simp only [State.getAndCount, hp]
    exact State.answer_completes _ _
  · exact s.answer_completes _

theorem State.sendFrame_completes (f : Frame) (rtr ext : Bool) (prio : Prio) (s : State) :
    Completes (s.sendFrame f rtr ext prio) := by
  unfold State.sendFrame
  dsimp only
  split <;> exact State.answer_completes _ _

/-- An application command that answers or submits whole, behind the adapter's gate, completes if its body does. -/
theorem State.onApplicationPort_whole_completes {s : State} (hs : s.Inv) {fmt : RespFormat} {whole : State → Out}
    {acts : List MicroAct} (h : Completes (whole s)) :
    Completes (s.onApplicationPort fmt (State.wholeOrSplit .adp whole acts)) := by
  refine State.onApplicationPort_completes ?_
  rwa [State.wholeOrSplit_of_atomic hs.atomic]

/-- Every instruction completes in every state of the invariant with `RXC >= 1`. -/
theorem exec_completes (i : Instr) {s : State} (hs : s.Inv) (hrx : 1 ≤ s.cfg.rxC) : Completes (exec i s) := by
  cases i with
  | put f => exact execPut_completes hs f
  | get => exact State.onConsumerPort_completes hs fun _ _ h => h.get_ok _
  | peek => exact State.onConsumerPort_completes (whole := fun c _ => RB.peek c) hs fun _ _ h => h.peek_ok
  | instime =>
    exact State.onConsumerPort_completes (whole := fun c _ => RB.instime c _) (hs.useFree 1) fun _ _ h => h.instime_ok _
  | clear =>
    exact State.onConsumerPort_completes (whole := fun _ _ b => .ok (b.clear, .rs .ok)) hs fun _ _ _ => ⟨_, rfl⟩
  | construct => exact execConstruct_completes hs
  | avail | occ | free | full | empty | hwm | putcnt | getcnt | ovfcnt => exact State.accessor_completes hs _
  | init poll xtal => exact execInit_completes hs hrx poll xtal
  | aavail => exact State.onApplicationPort_completes (State.adapterAvailable_completes hs)
  | getmsg => exact State.onApplicationPort_completes (State.takeMessage_completes hs)
  | send f rtr ext prio => exact State.onApplicationPort_whole_completes hs (State.sendFrame_completes f rtr ext prio s)
  | reset => exact execReset_completes hs hrx
  | rxcnt | txcnt => exact State.onApplicationPort_whole_completes hs ⟨_, rfl⟩
  | pstep => exact State.takeEdge_completes hs

/-- Serving a request completes: its instruction does, a reserved opcode is answered, no edge is no event (R96, R108). -/
theorem State.serve_completes (r : Request) {s : State} (hs : s.Inv) (hrx : 1 ≤ s.cfg.rxC) : Completes (s.serve r) := by
  unfold State.serve
  split
  · exact exec_completes _ hs hrx
  · exact s.answer_completes _
  · exact ⟨_, rfl⟩

/-! ### The obligations -/

/-- Settles O51, by what is presented: an instruction completes by `exec_completes`, and nothing is in progress that a
request would wait for or a micro-step would run. -/
theorem stepAlwaysCompletes : Obligations.StepAlwaysCompletes := by
  intro s hs hrx
  cases hn : nextInput s.inputs with
  | nothing =>
    have hq : s.clearOutputs.quiet := hs.quiet
    exact ⟨_, (step_of_nothing hn).trans hq.proceed_eq⟩
  | advance u rest =>
    have hq : (s.clearOutputs.withInputs rest).quiet := hs.quiet
    exact ⟨_, (step_of_advance hn).trans (State.microStep_of_idle (hq.micro_todo u))⟩
  | request r rest =>
    rw [step_of_request hn (hs.quiet.waitsFor_eq_none r.port)]
    exact State.serve_completes r (hs.sampled r rest) hrx

/-- Settles O9, by the lemma of a step that serves a request. -/
theorem stepRunsTheDecodedInstruction : Obligations.StepRunsTheDecodedInstruction := by
  intro s r rest i hin hw hd
  rw [step_of_request (by rw [hin]; rfl) hw]
  simp only [State.serve, hd]
  rfl

/-- Settles O11: nothing in progress goes on, and a word of port `E` with bit 0 clear is no event. -/
theorem nothingPresentedNothingHappens : Obligations.NothingPresentedNothingHappens := by
  refine ⟨fun s hq hin => ?_, fun s w e rest hw hin => ?_⟩
  · have hq' : s.clearOutputs.quiet := hq
    rw [step_of_nothing (by rw [hin]; rfl), hq'.proceed_eq]
    rfl
  · have hd : decode .adpE w = .noEvent := by
      simp only [decode, decodeEvent, hw, Bool.false_eq_true, if_false]
    rw [step_of_request (by rw [hin]; rfl) (State.waitsFor_of_not_consumer rfl s)]
    simp only [State.serve, hd]
    rfl

end Sys2Proof.Machine

/-! ## Scope: the state, its invariants, and who writes what -/

namespace Sys2Proof.Machine

/-! ### The window of a buffer -/

/-- For valid indices the occupied window ends at `head` (R30, R32). -/
theorem RB.tail_add_occ_mod {c : Nat} {b : RB} (hh : b.head < c) (ht : b.tail < c)
    (hf : b.full = true → b.head = b.tail) : (b.tail + b.occ c) % c = b.head := by
  cases hb : b.full
  · by_cases hl : b.tail ≤ b.head
    · simp only [RB.occ, hb, hl, Bool.false_eq_true, if_false, if_true]
      rw [Nat.add_sub_cancel' hl, Nat.mod_eq_of_lt hh]
    · simp only [RB.occ, hb, hl, Bool.false_eq_true, if_false]
      rw [Nat.add_sub_cancel' (by omega), Nat.add_mod_left, Nat.mod_eq_of_lt hh]
  · rw [RB.occ_of_full hb, Nat.add_mod_right, Nat.mod_eq_of_lt ht, hf hb]

/-- A buffer is empty exactly where its indices meet and `full` is clear (R27, R30). -/
theorem RB.occ_eq_zero_iff {c : Nat} {b : RB} (ht : b.tail < c) :
    b.occ c = 0 ↔ b.head = b.tail ∧ b.full = false := by
  cases hb : b.full
  · simp only [RB.occ, hb, Bool.false_eq_true, if_false, and_true]
    split <;> omega
  · simp only [RB.occ_of_full hb, Bool.true_eq_false, and_false, iff_false]
    omega

/-- Settles O14, by the three arms of the occupancy function. -/
theorem occupancyMeasuresTheWindow : Obligations.OccupancyMeasuresTheWindow := fun _ _ hh ht hf =>
  ⟨fun h => RB.occ_lt_of_not_full h hh ht, RB.occ_of_full, RB.occ_eq_zero_iff ht, RB.tail_add_occ_mod hh ht hf⟩

/-- For valid indices `full` says that the buffer holds `C` entries (R27, R32). -/
theorem RB.full_iff_occ {c : Nat} {b : RB} (hh : b.head < c) (ht : b.tail < c) : b.full = true ↔ b.occ c = c := by
  refine ⟨RB.occ_of_full, fun ho => ?_⟩
  by_contra hb
  exact (RB.occ_lt_of_not_full (by simpa using hb) hh ht).ne ho

theorem RB.mem_window {c i : Nat} {b : RB} : i ∈ b.window c ↔ ∃ k < b.occ c, (b.tail + k) % c = i := by
  simp [RB.window]

/-- A window that starts one slot later. -/
theorem inc_add_mod {c i : Nat} (h : i < c) (k : Nat) : (inc c i + k) % c = (i + (k + 1)) % c := by
  rw [inc_eq_mod h, Nat.mod_add_mod, Nat.add_assoc, Nat.add_comm 1]

/-! ### Soundness of a buffer (R32) -/

/-- What soundness says beyond valid indices: `full` only where they meet, the high-water-mark above the occupancy, and
a value in every slot of the window. -/
theorem RB.Sound.of {c : Nat} {b : RB} (hh : b.head < c) (ht : b.tail < c) (hf : b.full = true → b.head = b.tail)
    (ho : b.occ c ≤ b.hwm) (hw : b.hwm ≤ c) (hs : ∀ i ∈ b.window c, (Memory.read b.mem i).isSome = true) : b.Sound c :=
  ⟨by omega, hh, ht, RB.occ_le hh ht, RB.full_iff_occ hh ht, hf, ho, hw, hs⟩

/-- The slots a `PUT` leaves in the window are the one it wrote and slots of the old window (R132). -/
theorem RB.window_putBody {c w i : Nat} {f : Frame} {t : Timestamp} {b : RB} (hh : b.head < c) (ht : b.tail < c)
    (hf : b.full = true → b.head = b.tail) (hi : i ∈ (b.putBody c w f t).window c) : i = b.head ∨ i ∈ b.window c := by
  have hend := RB.tail_add_occ_mod hh ht hf
  obtain ⟨k, hk, rfl⟩ := RB.mem_window.1 hi
  cases hb : b.full
  · rw [RB.occ_putBody_of_not_full hb ht] at hk
    simp only [RB.putBody_tail, hb, Bool.false_eq_true, if_false]
    rcases Nat.lt_succ_iff_lt_or_eq.1 hk with hk | rfl
    · exact .inr (RB.mem_window.2 ⟨k, hk, rfl⟩)
    · exact .inl hend
  · rw [(RB.occ_putBody_of_full hb (hf hb)).2] at hk
    rw [RB.occ_of_full hb] at hend
    simp only [RB.putBody_tail, hb, if_true, inc_add_mod ht]
    rcases Nat.lt_or_eq_of_le (Nat.succ_le_of_lt hk) with hk | rfl
    · exact .inr (RB.mem_window.2 ⟨k + 1, by rwa [RB.occ_of_full hb], rfl⟩)
    · exact .inl hend

/-- `PUT` keeps a buffer sound (R132). -/
theorem RB.Sound.putBody {c : Nat} {b : RB} (h : b.Sound c) (w : Nat) (f : Frame) (t : Timestamp) :
    (b.putBody c w f t).Sound c := by
  obtain ⟨-, hh, ht, -, -, hf, -, hw, hs⟩ := h
  have hh' : (b.putBody c w f t).head < c := by simpa using inc_lt hh
  have ht' : (b.putBody c w f t).tail < c := by
    rw [RB.putBody_tail]
    split
    · exact inc_lt ht
    · exact ht
  refine RB.Sound.of hh' ht' (by simp) ?_ ?_ fun i hi => ?_
  · rw [RB.putBody_hwm]
    exact le_max_right _ _
  · rw [RB.putBody_hwm]
    exact max_le hw (RB.occ_le hh' ht')
  · rw [RB.putBody_mem, Memory.read_write]
    split
    · rfl
    · exact hs i ((RB.window_putBody hh ht hf hi).resolve_left ‹_›)

/-- Taking an entry keeps a buffer sound (R136). -/
theorem RB.Sound.taken {c : Nat} {b : RB} (h : b.Sound c) (ho : b.occ c ≠ 0) (w : Nat) : (b.taken c w).Sound c := by
  obtain ⟨-, hh, ht, -, -, hf, hm, hw, hs⟩ := h
  have hocc : (b.taken c w).occ c + 1 = b.occ c := RB.occ_taken ho hh ht hf
  refine RB.Sound.of (b := b.taken c w) hh (inc_lt ht) (by simp) (by simp; omega) hw fun i hi => hs i ?_
  obtain ⟨k, hk, rfl⟩ := RB.mem_window.1 hi
  exact RB.mem_window.2 ⟨k + 1, by omega, by rw [RB.taken_tail, inc_add_mod ht]⟩

/-- A buffer with indices at zero and `full` clear is sound, whatever its slots hold. -/
theorem RB.Sound.of_zero {c : Nat} {b : RB} (hc : 1 ≤ c) (hh : b.head = 0) (ht : b.tail = 0) (hf : b.full = false)
    (hw : b.hwm ≤ c) : b.Sound c := by
  have ho : b.occ c = 0 := by simp [RB.occ, hh, ht, hf]
  refine RB.Sound.of (by omega) (by omega) (by simp [hf]) (by omega) hw fun i hi => ?_
  simp [RB.window, ho] at hi

/-- `CLEAR` keeps a buffer sound (R146). -/
theorem RB.Sound.clear {c : Nat} {b : RB} (h : b.Sound c) : b.clear.Sound c := by
  obtain ⟨hc, -, -, -, -, -, -, hw, -⟩ := h
  exact RB.Sound.of_zero hc rfl rfl rfl hw

/-- A construction that leaves a buffer usable makes a buffer with every register zero (R130, R50). -/
theorem constructed_usable {c w n : Nat} {ok : Bool} (h : (constructed c w ok n).usable = true) :
    1 ≤ c ∧ constructed c w ok n = RB.fresh := by
  rcases constructed_cases c w ok n with ⟨-, he⟩ | ⟨-, he⟩ <;> rw [he] at h ⊢
  · have hc : 1 ≤ c := by simpa using h
    exact ⟨hc, by simp [hc, RB.fresh]⟩
  · simp [RB.unusableFrom] at h

theorem constructed_sound {c w n : Nat} {ok : Bool} (h : (constructed c w ok n).usable = true) :
    (constructed c w ok n).Sound c := by
  obtain ⟨hc, he⟩ := constructed_usable h
  rw [he]
  exact RB.Sound.of_zero hc rfl rfl rfl (Nat.zero_le c)

/-! ### The accounting law (R37) -/

/-- A wrapped counter counts modulo its width (R150). -/
theorem wrap_modEq (w n : Nat) : wrap w n ≡ n [MOD 2 ^ w] := Nat.mod_modEq n (2 ^ w)

theorem RB.Accounted.modEq {c w : Nat} {b : RB} (h : b.Accounted c w) :
    b.puts ≡ b.gets + b.ovf + b.occ c [MOD 2 ^ w] := h

/-- `PUT` keeps the law: it counts one put and holds one more entry, or counts one overflow (R132). -/
theorem RB.Accounted.putBody {c w : Nat} {b : RB} (h : b.Accounted c w) (ht : b.tail < c)
    (hf : b.full = true → b.head = b.tail) (f : Frame) (t : Timestamp) : (b.putBody c w f t).Accounted c w := by
  have hput : wrap w (b.puts + 1) ≡ b.gets + b.ovf + b.occ c + 1 [MOD 2 ^ w] :=
    (wrap_modEq w _).trans (h.modEq.add_right 1)
  show _ ≡ _ [MOD 2 ^ w]
  cases hb : b.full
  · simpa [RB.occ_putBody_of_not_full hb ht, hb, ← Nat.add_assoc] using hput
  · have hovf : b.gets + b.ovf + b.occ c + 1 ≡ b.gets + wrap w (b.ovf + 1) + b.occ c [MOD 2 ^ w] := by
      rw [Nat.add_right_comm, Nat.add_assoc b.gets]
      exact (((wrap_modEq w (b.ovf + 1)).symm.add_left _).add_right _)
    simpa [(RB.occ_putBody_of_full hb (hf hb)).2, RB.occ_of_full hb, hb] using hput.trans hovf

/-- Taking an entry keeps the law: it counts one get and holds one entry less (R136). -/
theorem RB.Accounted.taken {c w : Nat} {b : RB} (h : b.Accounted c w) (ho : b.occ c ≠ 0) (hh : b.head < c)
    (ht : b.tail < c) (hf : b.full = true → b.head = b.tail) : (b.taken c w).Accounted c w := by
  have hocc : (b.taken c w).occ c + 1 = b.occ c := RB.occ_taken ho hh ht hf
  have hget : b.gets + b.ovf + b.occ c ≡ wrap w (b.gets + 1) + b.ovf + (b.taken c w).occ c [MOD 2 ^ w] := by
    rw [← hocc, ← Nat.add_assoc, Nat.add_right_comm, Nat.add_right_comm b.gets]
    exact ((wrap_modEq w (b.gets + 1)).symm.add_right _).add_right _
  exact h.modEq.trans hget

theorem constructed_accounted {c w n : Nat} {ok : Bool} (h : (constructed c w ok n).usable = true) :
    (constructed c w ok n).Accounted c w := by
  rw [(constructed_usable h).2]
  simp [RB.Accounted, RB.fresh, RB.occ]

/-! ### What an instruction can do -/

/-- The micro-steps an operation splits into with `ATOMIC = false` (R280, R281); a producer's operation has none. -/
def State.actsOf (s : State) : Instr → List MicroAct
  | .get => getActs
  | .peek => peekActs
  | .instime => instimeActs (BitVec.ofNat 32 (Config.freeValue s.free))
  | .clear => clearActs
  | .construct =>
    constructActs .rb s.cfg.rbC s.env.allocOk s.free ++ [.answer (.rs (constructStatus s.cfg.rbC s.env.allocOk))]
  | .avail | .aavail => accessorActs .avail
  | .occ => accessorActs .occ
  | .free => accessorActs .free
  | .full => accessorActs .full
  | .empty => accessorActs .empty
  | .hwm => accessorActs .hwm
  | .putcnt => accessorActs .puts
  | .getcnt => accessorActs .gets
  | .ovfcnt => accessorActs .ovf
  | .init poll xtal => [.storePoll poll, .storeXtal xtal] ++ s.initActs poll xtal
  | .getmsg => getmsgActs
  | .send f rtr ext prio => sendActs (submitted f rtr ext prio) s.env.send
  | .reset => [.writeSt .uninit, .writeIrq false, .callChip .recreate] ++ s.initActs s.cfgPoll s.cfgXtal
  | .rxcnt => [.readReceived]
  | .txcnt => [.readSent]
  | .put _ | .pstep => []

/-- What a whole initialisation leaves (R182, R204): both buffers constructed and the operands stored; `ready` says
whether every step succeeded. -/
def State.initialised (poll : Bool) (xtal : Xtal) (ready : Bool) (r : Response) (calls : List ChipCall) (s : State) :
    State :=
  { s.constructBuffers with
    cfgPoll := poll, cfgXtal := xtal, st := if ready then .ready else .uninit, irqReg := ready && !poll
    resp := some r, calls := calls }

/-- What an instruction makes of a state when it answers: one constructor per way an operation can end or, with
`ATOMIC = false`, begin. -/
inductive Executed : Instr → State → State → Prop
  /-- A gate's refusal, `EMPTY`, or an answer that reads the state only. -/
  | answered {i s} (n : Nat) (r : Response) (hc : ∀ u, ¬ s.constructs u i) : Executed i s ((s.useFree n).withResp r)
  /-- `PUT` on a usable buffer (R132). -/
  | put {s} (f : Frame) (hu : s.rb.usable = true) (hh : s.rb.head < s.cfg.rbC) :
    Executed (.put f) s ((s.setBuf .rb (s.rb.putBody s.cfg.rbC s.cfg.cntw f s.env.now)).withResp (.rs .ok))
  /-- `GET` of a buffer that holds an entry (R136). -/
  | get {s} (u : UnitId) (r : Response) (ha : s.cfg.atomic = true) (hu : (s.buf u).usable = true)
    (ho : (s.buf u).occ (s.cap u) ≠ 0) (ht : (s.buf u).tail < s.cap u) :
    Executed .get s ((s.setBuf u ((s.buf u).taken (s.cap u) s.cfg.cntw)).withResp r)
  /-- `CLEAR` (R146). -/
  | clear {s} (u : UnitId) (r : Response) (ha : s.cfg.atomic = true) (hu : (s.buf u).usable = true) :
    Executed .clear s ((s.setBuf u (s.buf u).clear).withResp r)
  /-- `CONSTRUCT` (R130). -/
  | construct {s} (n : Nat) (r : Response) (ha : s.cfg.atomic = true) :
    Executed .construct s
      (((s.useFree n).setBuf .rb (constructed s.cfg.rbC s.cfg.cntw s.env.allocOk s.free)).withResp r)
  /-- `INIT` (R182). -/
  | init {s} (poll : Bool) (xtal : Xtal) (ready : Bool) (r : Response) (calls : List ChipCall) (ha : s.cfg.atomic = true)
    (hc : s.cfg.rxC ≠ 0) (hr : ready = true → s.initSucceeds xtal) :
    Executed (.init poll xtal) s (s.initialised poll xtal ready r calls)
  /-- `RESET` of a `READY` adapter (R204). -/
  | reset {s} (ready : Bool) (r : Response) (calls : List ChipCall) (ha : s.cfg.atomic = true) (hc : s.cfg.rxC ≠ 0)
    (hr : ready = true → s.initSucceeds s.cfgXtal) :
    Executed .reset s (s.initialised s.cfgPoll s.cfgXtal ready r calls)
  /-- `GETMSG` of a receive buffer that holds an entry (R190). -/
  | getmsg {s} (r : Response) (ha : s.cfg.atomic = true) (hu : s.rx.usable = true) (ho : s.rx.occ s.cfg.rxC ≠ 0)
    (ht : s.rx.tail < s.cfg.rxC) :
    Executed .getmsg s
      ({ s with rx := s.rx.taken s.cfg.rxC s.cfg.cntw, rxCount := wrap s.cfg.cntw (s.rxCount + 1) }.withResp r)
  /-- `SEND` of a frame the chip refuses (R196). -/
  | refusedFrame {s} (f : Frame) (rtr ext : Bool) (prio : Prio) (c : ChipCall) (r : Response) :
    Executed (.send f rtr ext prio) s ((s.call c).withResp r)
  /-- `SEND` of a frame the chip accepts (R196). -/
  | sent {s} (f : Frame) (rtr ext : Bool) (prio : Prio) (c : ChipCall) (r : Response) :
    Executed (.send f rtr ext prio) s ({ s.call c with txCount := wrap s.cfg.cntw (s.txCount + 1) }.withResp r)
  /-- An edge that is discarded (R228). -/
  | discarded {s} : Executed .pstep s s
  /-- An edge that runs a production step (R200, R228). -/
  | edge {s t} (h : s.productionStep = .next t) : Executed .pstep s t
  /-- `AAVAIL` in polling mode (R186). -/
  | polled {s t} (r : Response) (h : s.productionStep = .next t) : Executed .aavail s (t.withResp r)
  /-- The first micro-step of a consumer operation (R280), behind its port's and its unit's gates. -/
  | split {i s t} (u : UnitId) (n : Nat) (ha : s.cfg.atomic = false) (hp : s.port = u.consumerPort)
    (hi : u.consumerPort.accepts i = true) (hst : u = .adp → (∀ p x, i ≠ .init p x) → s.st = .ready)
    (hu : u = .rb → i ≠ .construct → s.rb.usable = true) (hc : (∃ p x, i = .init p x) ∨ i = .reset → s.cfg.rxC ≠ 0)
    (h : (s.useFree n).startMicro u (s.actsOf i) = .next t) : Executed i s t

@[simp] theorem State.setBuf_useFree_self (n : Nat) (u : UnitId) (s : State) :
    (s.useFree n).setBuf u (s.buf u) = s.useFree n := by cases u <;> rfl

/-- Only `CONSTRUCT`, `INIT` and `RESET` construct (R130, R182, R204). -/
theorem State.not_constructs {i : Instr} (hc : i ≠ .construct) (hi : ∀ p x, i ≠ .init p x) (hr : i ≠ .reset) (s : State)
    (u : UnitId) : ¬ s.constructs u i := by
  rintro (⟨-, -, h⟩ | ⟨-, -, ⟨p, x, h⟩ | ⟨h, -⟩⟩)
  · exact hc h
  · exact hi p x h
  · exact hr h

/-- Where no port of the request constructs, no instruction does. -/
theorem State.not_constructs_of_port {s : State} {i : Instr} (hb : s.port ≠ .rbC ∨ i ≠ .construct)
    (ha : s.port ≠ .adpA ∨ ((∀ p x, i ≠ .init p x) ∧ (i = .reset → s.st ≠ .ready))) (u : UnitId) :
    ¬ s.constructs u i := by
  rintro (⟨-, hp, h⟩ | ⟨-, hp, h⟩)
  · exact hb.elim (· hp) (· h)
  · obtain ⟨hi, hr⟩ := ha.resolve_left (· hp)
    rcases h with ⟨p, x, h⟩ | ⟨h, hst⟩
    · exact hi p x h
    · exact hr h hst

/-- A consumer operation on a buffer, begun in micro-steps or ended whole with what `whole` makes of the buffer. -/
theorem Executed.of_consumer {i : Instr} {fmt : RespFormat} {whole : Nat → Nat → RB → Except Fault (RB × Response)}
    {s t : State} (n : Nat) (hc : ∀ u, ¬ s.constructs u i) (hni : ∀ p x, i ≠ .init p x) (hnr : i ≠ .reset)
    (hacc : ∀ u : UnitId, u.consumerPort.accepts i = true)
    (hwhole : ∀ u b r, s.cfg.atomic = true → (s.buf u).usable = true →
      whole (s.cap u) s.cfg.cntw (s.buf u) = .ok (b, r) → Executed i s (((s.useFree n).setBuf u b).withResp r))
    (h : (s.useFree n).onConsumerPort fmt whole (s.actsOf i) = .next t) : Executed i s t := by
  rcases State.onConsumerPort_next h with ⟨-, rfl⟩ | ⟨-, -, rfl⟩ | ⟨u, hp, hst, h⟩
  · exact .answered n _ hc
  · exact .answered n _ hc
  rcases State.onBuffer_next h with ⟨-, rfl⟩ | ⟨hu, ha, b, r, hw, rfl⟩ | ⟨hu, ha, h⟩
  · exact .answered n _ hc
  · exact hwhole u b r ha (by simpa using hu) (by simpa using hw)
  · refine .split u n ha hp (hacc u) (fun hadp _ => hst hadp) ?_ ?_ h
    · rintro rfl -
      exact hu
    · rintro (⟨p, x, hi⟩ | hi)
      · exact absurd hi (hni p x)
      · exact absurd hi hnr

/-- An accessor reads its buffer and answers (R169). -/
theorem Executed.of_accessor {i : Instr} {q : Query} {s t : State} (hacts : s.actsOf i = accessorActs q)
    (hc : ∀ u, ¬ s.constructs u i) (hni : ∀ p x, i ≠ .init p x) (hnr : i ≠ .reset)
    (hacc : ∀ u : UnitId, u.consumerPort.accepts i = true) (h : s.accessor q = .next t) : Executed i s t := by
  unfold State.accessor at h
  rw [← hacts] at h
  refine .of_consumer 0 hc hni hnr hacc (fun u b r _ _ hw => ?_) h
  cases hw
  rw [State.setBuf_useFree_self]
  exact .answered 0 _ hc

/-- An application command behind the adapter's gate: refused, or what its body makes of a `READY` adapter. -/
theorem Executed.of_application {i : Instr} {fmt : RespFormat} {k : State → Out} {s t : State} (hci : i ≠ .construct)
    (hni : ∀ p x, i ≠ .init p x) (hk : s.port = .adpA → s.st = .ready → k s = .next t → Executed i s t)
    (h : s.onApplicationPort fmt k = .next t) : Executed i s t := by
  rcases State.onApplicationPort_next h with ⟨hp, rfl⟩ | ⟨-, hst, rfl⟩ | ⟨hp, hst, h⟩
  · exact .answered 0 _ (State.not_constructs_of_port (.inr hci) (.inl hp))
  · exact .answered 0 _ (State.not_constructs_of_port (.inr hci) (.inr ⟨hni, fun _ => hst⟩))
  · exact hk hp hst h

/-- The body of an application command that does not initialise: run whole, or begun in micro-steps. -/
theorem Executed.of_wholeOrSplit {i : Instr} {whole : State → Out} {s t : State} (hp : s.port = .adpA)
    (hst : s.st = .ready) (hacc : Port.adpA.accepts i = true) (hni : ∀ p x, i ≠ .init p x) (hnr : i ≠ .reset)
    (hwhole : s.cfg.atomic = true → whole s = .next t → Executed i s t)
    (h : s.wholeOrSplit .adp whole (s.actsOf i) = .next t) : Executed i s t := by
  rcases State.wholeOrSplit_next h with ⟨ha, h⟩ | ⟨ha, h⟩
  · exact hwhole ha h
  · refine .split .adp 0 ha hp hacc (fun _ _ => hst) (fun h => by cases h) ?_ h
    rintro (⟨p, x, hi⟩ | hi)
    · exact absurd hi (hni p x)
    · exact absurd hi hnr

/-- A whole initialisation ends `READY` only if every step succeeds (R182). -/
theorem State.initBody_initialised {s t : State} (h : s.initBody = .next t) :
    ∃ ready r calls, (ready = true → s.initSucceeds s.cfgXtal) ∧ t = s.initialised s.cfgPoll s.cfgXtal ready r calls := by
  rcases State.initBody_next h with ⟨hs, rfl⟩ | ⟨-, rfl⟩
  · exact ⟨true, .rs .ok, _, fun _ => hs, rfl⟩
  · exact ⟨false, .rs .initFail, _, by simp, rfl⟩

theorem execPut_executed {f : Frame} {s t : State} (h : execPut f s = .next t) : Executed (.put f) s t := by
  have hc := s.not_constructs (i := .put f) (by simp) (by simp) (by simp)
  unfold execPut at h
  split at h
  · obtain ⟨b, r, hb, rfl⟩ := State.finishBuf_next h
    rcases RB.put_ok hb with ⟨-, rfl, rfl⟩ | ⟨hu, hh, rfl, rfl⟩
    · exact .answered 0 _ hc
    · exact .put f hu hh
  all_goals
    cases h
    exact .answered 0 _ hc

theorem execGet_executed {s t : State} (h : execGet s = .next t) : Executed .get s t := by
  have hc := s.not_constructs (i := .get) (by simp) (by simp) (by simp)
  refine .of_consumer 0 hc (by simp) (by simp) (by rintro ⟨⟩ <;> rfl) (fun u b r ha hu hw => ?_) h
  rcases RB.get_ok hw with ⟨-, rfl, rfl⟩ | ⟨ho, e, he, rfl, rfl⟩
  · rw [State.setBuf_useFree_self]
    exact .answered 0 _ hc
  · exact .get u _ ha hu ho (RB.tailEntry_ok he).1

theorem execPeek_executed {s t : State} (h : execPeek s = .next t) : Executed .peek s t := by
  have hc := s.not_constructs (i := .peek) (by simp) (by simp) (by simp)
  refine .of_consumer 0 hc (by simp) (by simp) (by rintro ⟨⟩ <;> rfl) (fun u b r _ _ hw => ?_) h
  obtain ⟨rfl, -⟩ := RB.peek_ok hw
  rw [State.setBuf_useFree_self]
  exact .answered 0 r hc

theorem execInstime_executed {s t : State} (h : execInstime s = .next t) : Executed .instime s t := by
  have hc := s.not_constructs (i := .instime) (by simp) (by simp) (by simp)
  refine .of_consumer (whole := fun c _ => RB.instime c _) 1 hc (by simp) (by simp) (by rintro ⟨⟩ <;> rfl)
    (fun u b r _ _ hw => ?_) h
  obtain ⟨rfl, -⟩ := RB.instime_ok hw
  rw [State.setBuf_useFree_self]
  exact .answered 1 r hc

theorem execClear_executed {s t : State} (h : execClear s = .next t) : Executed .clear s t := by
  have hc := s.not_constructs (i := .clear) (by simp) (by simp) (by simp)
  refine .of_consumer 0 hc (by simp) (by simp) (by rintro ⟨⟩ <;> rfl) (fun u b r ha hu hw => ?_) h
  cases hw
  exact .clear u _ ha hu

theorem execConstruct_executed {s t : State} (h : execConstruct s = .next t) : Executed .construct s t := by
  unfold execConstruct at h
  split at h
  · rename_i hp
    rcases State.wholeOrSplit_next h with ⟨ha, h⟩ | ⟨ha, h⟩
    · cases h
      exact .construct _ _ ha
    · exact .split .rb _ ha hp rfl (fun h => by cases h) (fun _ h => absurd rfl h) (by simp) h
  all_goals
    rename_i hp
    cases h
    exact .answered 0 _ (State.not_constructs_of_port (.inl (by simp [hp])) (.inr ⟨by simp, by simp⟩))

theorem execInit_executed {poll : Bool} {xtal : Xtal} {s t : State} (h : execInit poll xtal s = .next t) :
    Executed (.init poll xtal) s t := by
  unfold execInit at h
  split at h
  · rename_i hp
    obtain ⟨hc, ⟨ha, h⟩ | ⟨ha, h⟩⟩ := State.initialise_next h
    · obtain ⟨ready, r, calls, hr, rfl⟩ := State.initBody_initialised h
      exact .init poll xtal ready r calls ha hc hr
    · exact .split .adp _ ha hp rfl (fun _ h => absurd rfl (h poll xtal)) (fun h => by cases h) (fun _ => hc) h
  all_goals
    rename_i hp
    cases h
    exact .answered 0 _ (State.not_constructs_of_port (.inr (by simp)) (.inl (by simp [hp])))

theorem execReset_executed {s t : State} (h : execReset s = .next t) : Executed .reset s t := by
  refine .of_application (by simp) (by simp) (fun hp hst h => ?_) h
  obtain ⟨hc, ⟨ha, h⟩ | ⟨ha, h⟩⟩ := State.initialise_next h
  · obtain ⟨ready, r, calls, hr, rfl⟩ := State.initBody_initialised h
    exact .reset ready r calls ha hc hr
  · exact .split .adp _ ha hp rfl (fun _ _ => hst) (fun h => by cases h) (fun _ => hc) h

theorem execAavail_executed {s t : State} (h : execAavail s = .next t) : Executed .aavail s t := by
  have hc := s.not_constructs (i := .aavail) (by simp) (by simp) (by simp)
  refine .of_application (by simp) (by simp) (fun hp hst h => ?_) h
  unfold State.adapterAvailable at h
  split at h
  · split at h <;> cases h
    exact .polled _ ‹_›
  · refine .of_wholeOrSplit hp hst rfl (by simp) (by simp) (fun _ h => ?_) h
    cases h
    exact .answered 0 _ hc

/-- `GETMSG` takes an entry and counts it, or leaves the state (R190). -/
theorem State.getAndCount_next {s t : State} (h : s.getAndCount = .next t) :
    (∃ r, t = s.withResp r) ∨ (s.rx.occ s.cfg.rxC ≠ 0 ∧ s.rx.tail < s.cfg.rxC ∧
      ∃ r, t = { s with rx := s.rx.taken s.cfg.rxC s.cfg.cntw, rxCount := wrap s.cfg.cntw (s.rxCount + 1) }.withResp r) := by
  unfold State.getAndCount at h
  split at h
  · cases h
  · rename_i b r hg
    cases h
    rcases RB.get_ok hg with ⟨-, rfl, rfl⟩ | ⟨ho, e, he, rfl, rfl⟩
    · exact .inl ⟨_, rfl⟩
    · exact .inr ⟨ho, (RB.tailEntry_ok he).1, _, rfl⟩

theorem execGetmsg_executed {s t : State} (h : execGetmsg s = .next t) : Executed .getmsg s t := by
  have hc := s.not_constructs (i := .getmsg) (by simp) (by simp) (by simp)
  refine .of_application (by simp) (by simp) (fun hp hst h => ?_) h
  unfold State.takeMessage at h
  split at h
  · rename_i hu
    refine .of_wholeOrSplit hp hst rfl (by simp) (by simp) (fun ha h => ?_) h
    rcases State.getAndCount_next h with ⟨r, rfl⟩ | ⟨ho, ht, r, rfl⟩
    · exact .answered 0 r hc
    · exact .getmsg r ha hu ho ht
  · cases h
    exact .answered 0 _ hc

theorem execSend_executed {f : Frame} {rtr ext : Bool} {prio : Prio} {s t : State}
    (h : execSend f rtr ext prio s = .next t) : Executed (.send f rtr ext prio) s t := by
  refine .of_application (by simp) (by simp) (fun hp hst h => ?_) h
  refine .of_wholeOrSplit hp hst rfl (by simp) (by simp) (fun _ h => ?_) h
  unfold State.sendFrame at h
  dsimp only at h
  split at h <;> cases h
  · exact .sent ..
  · exact .refusedFrame ..

theorem execPstep_executed {s t : State} (h : execPstep s = .next t) : Executed .pstep s t := by
  rcases State.takeEdge_next h with ⟨-, rfl⟩ | ⟨-, -, h⟩
  · exact .discarded
  · exact .edge h

/-- A message counter is read and answered, or its read is begun (R208, R209). -/
theorem Executed.of_count {i : Instr} {c : State → Nat} {s t : State} (hc : ∀ u, ¬ s.constructs u i)
    (hci : i ≠ .construct) (hni : ∀ p x, i ≠ .init p x) (hnr : i ≠ .reset) (hacc : Port.adpA.accepts i = true)
    (h : s.onApplicationPort .rv (State.wholeOrSplit .adp (fun t => t.answer (.rv .ok (c t))) (s.actsOf i)) = .next t) :
    Executed i s t := by
  refine .of_application hci hni (fun hp hst h => ?_) h
  refine .of_wholeOrSplit hp hst hacc hni hnr (fun _ h => ?_) h
  cases h
  exact .answered 0 _ hc

/-- Every instruction that answers does what `Executed` lists. -/
theorem exec_executed {i : Instr} {s t : State} (h : exec i s = .next t) : Executed i s t := by
  cases i with
  | put f => exact execPut_executed h
  | get => exact execGet_executed h
  | peek => exact execPeek_executed h
  | instime => exact execInstime_executed h
  | clear => exact execClear_executed h
  | construct => exact execConstruct_executed h
  | avail | occ | free | full | empty | hwm | putcnt | getcnt | ovfcnt =>
    exact .of_accessor rfl (s.not_constructs (by simp) (by simp) (by simp)) (by simp) (by simp)
      (by rintro ⟨⟩ <;> rfl) h
  | init poll xtal => exact execInit_executed h
  | aavail => exact execAavail_executed h
  | getmsg => exact execGetmsg_executed h
  | send f rtr ext prio => exact execSend_executed h
  | reset => exact execReset_executed h
  | rxcnt =>
    exact .of_count (c := (·.rxCount)) (s.not_constructs (by simp) (by simp) (by simp)) (by simp) (by simp) (by simp) rfl h
  | txcnt =>
    exact .of_count (c := (·.txCount)) (s.not_constructs (by simp) (by simp) (by simp)) (by simp) (by simp) (by simp) rfl h
  | pstep => exact execPstep_executed h

/-! ### What one micro-step writes -/

@[simp] theorem State.ring_setRing (j k : RingId) (b : RB) (s : State) :
    (s.setRing j b).ring k = if k = j then b else s.ring k := by
  cases j <;> cases k <;> rfl

@[simp] theorem State.setMicro_ring (u : UnitId) (m : Micro) (k : RingId) (s : State) :
    (s.setMicro u m).ring k = s.ring k := by
  cases u <;> cases k <;> rfl

theorem State.ring_withOptResp (r : Option Response) (k : RingId) (s : State) :
    ({ s with resp := r } : State).ring k = s.ring k := by
  cases k <;> rfl

/-- What a micro-step of unit `u` makes of the buffer `k` (R281, R130). -/
def MicroAct.onRing (u : UnitId) (k : RingId) (c w : Nat) (a : MicroAct) (b : RB) : RB :=
  match a with
  | .clearFull => if k = ringOf u then b.clearFull else b
  | .advanceTail => if k = ringOf u then b.advanceTail c else b
  | .countGet => if k = ringOf u then b.countGet w else b
  | .zeroHead => if k = ringOf u then b.zeroHead else b
  | .zeroTail => if k = ringOf u then b.zeroTail else b
  | .build j d => if k = j then d.apply c w b else b
  | .countReceived | .countSent | .storePoll _ | .storeXtal _ | .writeSt _ | .writeIrq _ | .callChip _ => b
  | .checkNotEmpty _ | .readFrame | .answerLatched | .answerPeek | .answerTime | .sample _ | .answer _ => b
  | .readReceived | .readSent => b

theorem State.ring_updBuf {u : UnitId} {k : RingId} {f : Nat → RB → RB} {s : State} :
    (s.updBuf u (f (s.cap u))).ring k = if k = ringOf u then f (s.ringCap k) (s.ring k) else s.ring k := by
  rw [State.updBuf_eq, State.ring_setRing]
  split
  · subst k
    simp
  · rfl

theorem State.effect_ring (u : UnitId) (k : RingId) (a : MicroAct) (s : State) :
    (s.effect u a).ring k = a.onRing u k (s.ringCap k) s.cfg.cntw (s.ring k) := by
  cases a with
  | clearFull => exact State.ring_updBuf (f := fun _ => RB.clearFull)
  | advanceTail => exact State.ring_updBuf (f := RB.advanceTail)
  | countGet => exact State.ring_updBuf (f := fun _ => RB.countGet s.cfg.cntw)
  | zeroHead => exact State.ring_updBuf (f := fun _ => RB.zeroHead)
  | zeroTail => exact State.ring_updBuf (f := fun _ => RB.zeroTail)
  | build j d =>
    simp only [State.effect, MicroAct.onRing, State.ring_setRing]
    split
    · subst k
      rfl
    · rfl
  | countReceived | countSent | storePoll | storeXtal | writeSt | writeIrq | callChip | checkNotEmpty | readFrame
  | answerLatched | answerPeek | answerTime | sample | answer | readReceived | readSent => cases k <;> rfl

/-- A micro-step writes the adapter's registers as its own table says (R182, R204). -/
theorem State.effect_adpRegs (u : UnitId) (a : MicroAct) (s : State) : (s.effect u a).adpRegs = a.regs s.adpRegs := by
  cases a with
  | clearFull | advanceTail | countGet | zeroHead | zeroTail => cases u <;> rfl
  | build j d => cases j <;> cases d <;> rfl
  | countReceived | countSent | storePoll | storeXtal | writeSt | writeIrq | callChip | checkNotEmpty | readFrame
  | answerLatched | answerPeek | answerTime | sample | answer | readReceived | readSent => rfl

/-- A micro-step that may end its operation writes nothing. -/
theorem State.effect_of_mayEnd {u : UnitId} {a : MicroAct} (h : a.mayEnd = true) (s : State) : s.effect u a = s := by
  cases a <;> simp_all [MicroAct.mayEnd, State.effect]

theorem MicroAct.onRing_of_mayEnd {a : MicroAct} (h : a.mayEnd = true) (u : UnitId) (k : RingId) (c w : Nat) (b : RB) :
    a.onRing u k c w b = b := by
  cases a <;> simp_all [MicroAct.mayEnd, MicroAct.onRing]

/-- A micro-step leaves its effect, an operation in progress and perhaps a response. -/
theorem State.runAct_effect {u : UnitId} {a : MicroAct} {rest : List MicroAct} {s t : State}
    (h : s.runAct u a rest = .next t) : ∃ m r, t = { (s.effect u a).setMicro u m with resp := r } := by
  rcases State.runAct_next h with ⟨ha, r, rfl⟩ | ⟨-, l, rfl⟩ | ⟨ha, r, rfl⟩
  · exact ⟨_, some r, by rw [State.effect_of_mayEnd ha]; rfl⟩
  · exact ⟨⟨l, rest⟩, _, rfl⟩
  · exact ⟨_, _, by rw [State.effect_of_mayEnd ha]; rfl⟩

/-- What a micro-step writes does not depend on the operations in progress. -/
theorem State.effect_setMicro (u v : UnitId) (a : MicroAct) (m : Micro) (s : State) :
    (s.setMicro v m).effect u a = (s.effect u a).setMicro v m := by
  cases a with
  | clearFull | advanceTail | countGet | zeroHead | zeroTail => cases u <;> cases v <;> rfl
  | build j d => cases j <;> cases v <;> rfl
  | countReceived | countSent | storePoll | storeXtal | writeSt | writeIrq | callChip | checkNotEmpty | readFrame
  | answerLatched | answerPeek | answerTime | sample | answer | readReceived | readSent => cases v <;> rfl

/-- An operation begun in micro-steps has run the first of them. -/
theorem State.startMicro_effect {u : UnitId} {a : MicroAct} {rest : List MicroAct} {s t : State}
    (h : s.startMicro u (a :: rest) = .next t) : ∃ m r, t = { (s.effect u a).setMicro u m with resp := r } := by
  have hrun : (s.setMicro u ⟨Frame.zero, a :: rest⟩).runAct u a rest = .next t := by
    simpa [State.startMicro, State.microStep] using h
  obtain ⟨m, r, rfl⟩ := State.runAct_effect hrun
  exact ⟨m, r, by rw [State.effect_setMicro, State.setMicro_setMicro]⟩

/-- The first micro-step of an operation writes nothing, or zeroes `head` (`CLEAR`), empties the slots (`CONSTRUCT`),
stores an operand (`INIT`), leaves `READY` (`RESET`) or calls the chip (`SEND`). -/
theorem State.actsOf_cons {i : Instr} {u : UnitId} (s : State) (hi : u.consumerPort.accepts i = true) :
    ∃ a rest, s.actsOf i = a :: rest ∧ (a.mayEnd = true ∨ (i = .clear ∧ a = .zeroHead) ∨
      (i = .construct ∧ a = .build .rb .dropSlots) ∨ (∃ p x, i = .init p x ∧ a = .storePoll p) ∨
      (i = .reset ∧ a = .writeSt .uninit) ∨ ∃ c, a = .callChip c) := by
  cases i with
  | put | pstep => cases u <;> cases hi
  | get | peek | instime | avail | occ | free | full | empty | hwm | putcnt | getcnt | ovfcnt | aavail | getmsg | rxcnt
  | txcnt => exact ⟨_, _, rfl, .inl rfl⟩
  | clear => exact ⟨_, _, rfl, by simp⟩
  | construct =>
    refine ⟨.build .rb .dropSlots, (s.actsOf .construct).tail, ?_, by simp⟩
    cases h : s.env.allocOk <;> simp [State.actsOf, constructActs, buildActs, h]
  | init poll xtal => exact ⟨.storePoll poll, _, rfl, by simp⟩
  | reset => exact ⟨.writeSt .uninit, _, rfl, by simp⟩
  | send => exact ⟨_, _, rfl, by simp⟩

/-! ### What an instruction makes of one buffer -/

/-- What an instruction makes of the buffer `k`: nothing, or one of the buffer's operations under the instructions that
run it. -/
inductive RingChange (i : Instr) (s : State) (k : RingId) : RB → Prop
  | same : RingChange i s k (s.ring k)
  /-- A producer's `PUT` (R132, R200). -/
  | put (f : Frame) (hi : i = .put f ∨ k = .rx) (hu : (s.ring k).usable = true) (hh : (s.ring k).head < s.ringCap k) :
    RingChange i s k ((s.ring k).putBody (s.ringCap k) s.cfg.cntw f s.env.now)
  /-- A `GET` or `GETMSG` that takes an entry (R136, R190). -/
  | taken (hi : i = .get ∨ k = .rx) (ha : s.cfg.atomic = true) (hu : (s.ring k).usable = true)
    (ho : (s.ring k).occ (s.ringCap k) ≠ 0) (ht : (s.ring k).tail < s.ringCap k) :
    RingChange i s k ((s.ring k).taken (s.ringCap k) s.cfg.cntw)
  /-- A `CLEAR` (R146). -/
  | cleared (hi : i = .clear) (ha : s.cfg.atomic = true) (hu : (s.ring k).usable = true) :
    RingChange i s k (s.ring k).clear
  /-- A construction (R130, R182). -/
  | built (hi : i = .construct ∨ k ≠ .rb ∧ ((∃ p x, i = .init p x) ∨ i = .reset)) (ha : s.cfg.atomic = true) (ok : Bool)
    (n : Nat) : RingChange i s k (constructed (s.ringCap k) s.cfg.cntw ok n)
  /-- The first micro-step of a `CLEAR` (R281). -/
  | zeroHead (hi : i = .clear) (ha : s.cfg.atomic = false) : RingChange i s k (s.ring k).zeroHead
  /-- The first micro-step of a `CONSTRUCT` (R130, R280). -/
  | dropSlots (hi : i = .construct) (ha : s.cfg.atomic = false) : RingChange i s k (s.ring k).dropSlots

/-- A production step puts at most one entry into `rx` (R200). -/
theorem RingChange.of_production {i : Instr} {s t : State} (k : RingId) (h : s.productionStep = .next t) :
    RingChange i s k (t.ring k) := by
  rcases State.productionStep_next h with ⟨-, rfl⟩ | ⟨f, -, -, rfl⟩ | ⟨f, -, hu, hh, rfl⟩
  · rw [State.call_ring]
    exact .same
  · rw [State.call_ring]
    exact .same
  · cases k with
    | rx => exact .put (k := .rx) f (.inr rfl) hu hh
    | rb | tx => exact .same

/-- Writing the buffer a unit reads leaves the others. -/
theorem RingChange.of_setBuf {i : Instr} {s : State} {u : UnitId} {b : RB} {r : Response} (k : RingId)
    (h : RingChange i s (ringOf u) b) : RingChange i s k (((s.setBuf u b).withResp r).ring k) := by
  cases u <;> cases k
  case rb.rb | adp.rx => exact h
  all_goals exact .same

/-- The first micro-step of an operation changes a buffer only in a `CLEAR` and a `CONSTRUCT`. -/
theorem RingChange.of_startMicro {i : Instr} {s t : State} {u : UnitId} {n : Nat} (k : RingId)
    (ha : s.cfg.atomic = false) (hi : u.consumerPort.accepts i = true)
    (h : (s.useFree n).startMicro u (s.actsOf i) = .next t) : RingChange i s k (t.ring k) := by
  obtain ⟨a, rest, hacts, hhead⟩ := s.actsOf_cons hi
  rw [hacts] at h
  obtain ⟨m, r, rfl⟩ := State.startMicro_effect h
  have hring : (({ ((s.useFree n).effect u a).setMicro u m with resp := r } : State)).ring k =
      a.onRing u k (s.ringCap k) s.cfg.cntw (s.ring k) := by
    rw [State.ring_withOptResp, State.setMicro_ring, State.effect_ring, State.useFree_ring]
    cases k <;> rfl
  rw [hring]
  rcases hhead with ha' | ⟨hi, rfl⟩ | ⟨hi, rfl⟩ | ⟨p, x, -, rfl⟩ | ⟨-, rfl⟩ | ⟨c, rfl⟩
  · rw [MicroAct.onRing_of_mayEnd ha']
    exact .same
  · simp only [MicroAct.onRing]
    split
    · exact .zeroHead hi ha
    · exact .same
  · simp only [MicroAct.onRing]
    split
    · exact .dropSlots hi ha
    · exact .same
  all_goals exact .same

/-- What an instruction makes of each buffer. -/
theorem exec_ring {i : Instr} {s t : State} (h : exec i s = .next t) (k : RingId) : RingChange i s k (t.ring k) := by
  cases exec_executed h with
  | answered n r =>
    rw [State.withResp_ring, State.useFree_ring]
    exact .same
  | put f hu hh => exact .of_setBuf (u := .rb) k (.put (k := .rb) f (.inl rfl) hu hh)
  | get u r ha hu ho ht =>
    refine .of_setBuf k ?_
    rw [← State.ring_ringOf] at hu ho ht ⊢
    rw [← State.ringCap_ringOf] at ho ht ⊢
    exact .taken (.inl rfl) ha hu ho ht
  | clear u r ha hu =>
    refine .of_setBuf k ?_
    rw [← State.ring_ringOf] at hu ⊢
    exact .cleared rfl ha hu
  | construct n r ha =>
    cases k with
    | rb => exact .built (k := .rb) (.inl rfl) ha _ _
    | rx | tx => exact .same
  | init p x ready r calls ha =>
    cases k with
    | rb => exact .same
    | rx => exact .built (k := .rx) (.inr ⟨by simp, .inl ⟨p, x, rfl⟩⟩) ha _ _
    | tx => exact .built (k := .tx) (.inr ⟨by simp, .inl ⟨p, x, rfl⟩⟩) ha _ _
  | reset ready r calls ha =>
    cases k with
    | rb => exact .same
    | rx => exact .built (k := .rx) (.inr ⟨by simp, .inr rfl⟩) ha _ _
    | tx => exact .built (k := .tx) (.inr ⟨by simp, .inr rfl⟩) ha _ _
  | getmsg r ha hu ho ht =>
    cases k with
    | rx => exact .taken (k := .rx) (.inr rfl) ha hu ho ht
    | rb | tx => exact .same
  | refusedFrame | sent => cases k <;> exact .same
  | discarded => exact .same
  | edge hprod => exact .of_production k hprod
  | polled r hprod =>
    rw [State.withResp_ring]
    exact .of_production k hprod
  | split u n ha hp hi hst hu hc hsplit => exact .of_startMicro k ha hi hsplit

/-- What an instruction makes of the buffer a unit reads. -/
theorem exec_buf {i : Instr} {s t : State} (h : exec i s = .next t) (u : UnitId) :
    RingChange i s (ringOf u) (t.buf u) :=
  State.ring_ringOf u t ▸ exec_ring h (ringOf u)

/-! ### Who writes the adapter's registers -/

/-- A production step writes none of the adapter's registers but through `rx` (R200). -/
theorem State.productionStep_frame {s t : State} (h : s.productionStep = .next t) :
    ∃ b l, t = { s with rx := b, calls := l } := by
  rcases State.productionStep_next h with ⟨-, rfl⟩ | ⟨f, -, -, rfl⟩ | ⟨f, -, -, -, rfl⟩
  · exact ⟨s.rx, _, rfl⟩
  · exact ⟨s.rx, _, rfl⟩
  · exact ⟨_, _, rfl⟩

/-- Settles O41, by the cases of what an instruction can do. -/
theorem writersOfTheAdapterRegisters : Obligations.WritersOfTheAdapterRegisters := by
  intro i s t h
  cases exec_executed h with
  | answered | put | get | clear | construct | init | reset | getmsg | refusedFrame | discarded => simp [State.initialised]
  | sent f rtr ext prio =>
    exact ⟨rfl, fun _ _ => ⟨rfl, rfl, rfl⟩, fun _ => ⟨rfl, rfl⟩, fun _ => rfl,
      fun hi => absurd rfl (hi f rtr ext prio)⟩
  | edge hprod | polled r hprod =>
    obtain ⟨b, l, rfl⟩ := State.productionStep_frame hprod
    simp
  | split u n ha hp hi hst hu hc hsplit =>
    obtain ⟨a, rest, hacts, hhead⟩ := s.actsOf_cons hi
    rw [hacts] at hsplit
    obtain ⟨m, r, rfl⟩ := State.startMicro_effect hsplit
    rcases hhead with ha' | ⟨rfl, rfl⟩ | ⟨rfl, rfl⟩ | ⟨p, x, rfl, rfl⟩ | ⟨rfl, rfl⟩ | ⟨c, rfl⟩
    · simp [State.effect_of_mayEnd ha']
    all_goals simp [State.effect]

/-! ### Who writes the buffers' registers -/

/-- Settles O42, by the cases of what an instruction makes of the standalone buffer. -/
theorem writersOfTheBufferRegisters : Obligations.WritersOfTheBufferRegisters := by
  intro i s t h hi
  have hrb : RingChange i s .rb t.rb := exec_ring h .rb
  generalize t.rb = d at hrb ⊢
  cases hrb with
  | same => simp [State.ring]
  | put f hput =>
    obtain rfl : i = .put f := hput.resolve_right (by simp)
    simp [State.ring]
  | taken hget =>
    obtain rfl : i = .get := hget.resolve_right (by simp)
    simp [State.ring]
  | cleared hclear | zeroHead hclear =>
    subst hclear
    simp [State.ring]
  | built hbuilt => exact absurd hbuilt (by simp [hi])
  | dropSlots hdrop => exact absurd hdrop hi

/-- Settles O25: of the operations on a buffer only a construction lowers the mark, and a `PUT` raises it. -/
theorem highWaterMarkNeverFalls : Obligations.HighWaterMarkNeverFalls := by
  intro i s t u h hc hi hr
  have hbuf := exec_buf h u
  rw [← State.ring_ringOf u s]
  generalize t.buf u = d at hbuf ⊢
  cases hbuf with
  | same | taken | cleared | zeroHead => exact le_refl _
  | put =>
    rw [RB.putBody_hwm]
    exact le_max_left _ _
  | built hbuilt => exact absurd hbuilt (by simp [hc, hi, hr])
  | dropSlots hdrop => exact absurd hdrop hc

/-! ### The accounting law over the instructions (R37) -/

/-- A buffer that an instruction constructs is a constructed one (R130, R182, R204). -/
theorem exec_constructs {i : Instr} {s t : State} {u : UnitId} (ha : s.cfg.atomic = true) (hc : s.constructs u i)
    (h : exec i s = .next t) : ∃ ok n, t.buf u = constructed (s.cap u) s.cfg.cntw ok n := by
  rcases hc with ⟨rfl, hp, rfl⟩ | ⟨rfl, hp, ⟨p, x, rfl⟩ | ⟨rfl, hst⟩⟩
  · cases exec_executed h with
    | answered n r hn => exact absurd (.inl ⟨rfl, hp, rfl⟩) (hn .rb)
    | construct => exact ⟨_, _, rfl⟩
    | split u n hna => simp [ha] at hna
  · cases exec_executed h with
    | answered n r hn => exact absurd (.inr ⟨rfl, hp, .inl ⟨p, x, rfl⟩⟩) (hn .adp)
    | init => exact ⟨_, _, rfl⟩
    | split u n hna => simp [ha] at hna
  · cases exec_executed h with
    | answered n r hn => exact absurd (.inr ⟨rfl, hp, .inr ⟨rfl, hst⟩⟩) (hn .adp)
    | reset => exact ⟨_, _, rfl⟩
    | split u n hna => simp [ha] at hna

/-- Every change of a sound buffer but a `CLEAR` keeps the law, or starts it again. -/
theorem RingChange.accounted {i : Instr} {s : State} {k : RingId} {b : RB} (h : RingChange i s k b)
    (ha : s.cfg.atomic = true) (hi : i ≠ .clear) (hs : (s.ring k).usable = true → (s.ring k).Sound (s.ringCap k))
    (hl : (s.ring k).usable = true → (s.ring k).Accounted (s.ringCap k) s.cfg.cntw) (hb : b.usable = true) :
    b.Accounted (s.ringCap k) s.cfg.cntw := by
  cases h with
  | same => exact hl hb
  | put f _ hu =>
    obtain ⟨-, -, ht, -, -, hf, -⟩ := hs hu
    exact (hl hu).putBody ht hf f _
  | taken _ _ hu ho =>
    obtain ⟨-, hh, ht, -, -, hf, -⟩ := hs hu
    exact (hl hu).taken ho hh ht hf
  | cleared hclear => exact absurd hclear hi
  | built => exact constructed_accounted hb
  | zeroHead _ hna | dropSlots _ hna => simp [ha] at hna

theorem exec_cfg {i : Instr} {s t : State} (h : exec i s = .next t) : t.cfg = s.cfg :=
  (writersOfTheAdapterRegisters i s t h).1

theorem State.cap_of_cfg {s t : State} (h : t.cfg = s.cfg) (u : UnitId) : t.cap u = s.cap u := by
  cases u <;> simp [State.cap, h]

/-- Settles O24: a constructed buffer meets the law, and every other change but a `CLEAR` keeps it. -/
theorem accountingLawKeptByAllButClear : Obligations.AccountingLawKeptByAllButClear := by
  intro i s t u hs h hu
  rw [State.cap_of_cfg (exec_cfg h), exec_cfg h]
  refine ⟨fun hc => ?_, fun hi hl => ?_⟩
  · obtain ⟨ok, n, hb⟩ := exec_constructs hs.atomic hc h
    rw [hb] at hu ⊢
    exact constructed_accounted hu
  · have hbuf := exec_buf h u
    have hsound := hs.sound u
    rw [← State.ring_ringOf, ← State.ringCap_ringOf] at hl hsound
    rw [← State.ringCap_ringOf]
    exact hbuf.accounted hs.atomic hi hsound hl hu

/-! ### Registers inside their widths (R25, R26, R33 to R36) -/

theorem wrap_lt (n v : Nat) : wrap n v < 2 ^ n := Nat.mod_lt v (Nat.two_pow_pos n)

/-- `IDXW` bits hold every index (R7). -/
theorem le_two_pow_idxw (c : Nat) : c ≤ 2 ^ idxw c := by
  unfold idxw clog2
  split
  · exact le_trans ‹c ≤ 1› Nat.one_le_two_pow
  · calc c ≤ 2 ^ ((c - 1).log2 + 1) := by have := Nat.lt_log2_self (n := c - 1); omega
      _ ≤ 2 ^ max 1 ((c - 1).log2 + 1) := Nat.pow_le_pow_right (by decide) (le_max_right _ _)

/-- `OCCW` bits hold every occupancy (R7). -/
theorem lt_two_pow_occw (c : Nat) : c < 2 ^ occw c := le_two_pow_idxw (c + 1)

/-- A buffer's memory is canonical and inside the slot array, and its registers keep their widths: the part of
`RB.Shape` that does not ask whether the buffer is usable. -/
structure RB.InWidths (c w : Nat) (b : RB) : Prop where
  wf : Memory.wf b.mem = true
  within : Memory.within c b.mem = true
  head : b.head < 2 ^ idxw c
  tail : b.tail < 2 ^ idxw c
  hwm : b.hwm < 2 ^ occw c
  puts : b.puts < 2 ^ w
  gets : b.gets < 2 ^ w
  ovf : b.ovf < 2 ^ w

/-- Validity read off the flags (R25, R26, R36). -/
theorem RB.flags_valid_iff {c : Nat} {b : RB} : (b.flags c).Valid ↔ b.Valid c := by
  simp only [RB.flags, BufFlags.Valid, RB.Valid, decide_eq_true_eq]
  exact ⟨fun h hu => ⟨by have := h hu; omega, h hu⟩, fun h hu => (h hu).2⟩

theorem RB.shape_iff {c w : Nat} {b : RB} : b.Shape c w ↔ b.InWidths c w ∧ (b.flags c).Valid := by
  rw [RB.flags_valid_iff]
  constructor
  · rintro ⟨h1, h2, h3, h4, h5, h6, h7, h8, hv⟩
    exact ⟨⟨h1, h2, h3, h4, h5, h6, h7, h8⟩, hv⟩
  · rintro ⟨⟨h1, h2, h3, h4, h5, h6, h7, h8⟩, hv⟩
    exact ⟨h1, h2, h3, h4, h5, h6, h7, h8, hv⟩

theorem RB.usable_of_flags {c : Nat} {b d : RB} (h : d.flags c = b.flags c) : d.usable = b.usable :=
  congrArg BufFlags.usable h

theorem RB.flags_congr {c : Nat} {b d : RB} (hu : d.usable = b.usable) (hh : d.head < c ↔ b.head < c)
    (ht : d.tail < c ↔ b.tail < c) (hm : d.hwm ≤ c ↔ b.hwm ≤ c) : d.flags c = b.flags c := by
  simp only [RB.flags, hu, hh, ht, hm]

section Widths
variable {c w : Nat} {b : RB}

/-- A `PUT` at a valid head of a usable buffer stays inside the widths (R132). -/
theorem RB.InWidths.putBody (h : b.InWidths c w) (hv : (b.flags c).Valid) (hu : b.usable = true) (f : Frame)
    (t : Timestamp) : (b.putBody c w f t).InWidths c w ∧ (b.putBody c w f t).flags c = b.flags c := by
  obtain ⟨-, hh, ht, hm⟩ := RB.flags_valid_iff.1 hv hu
  have hh' : (b.putBody c w f t).head < c := by simpa using inc_lt hh
  have ht' : (b.putBody c w f t).tail < c := by
    rw [RB.putBody_tail]
    split
    · exact inc_lt ht
    · exact ht
  have hm' : (b.putBody c w f t).hwm ≤ c := by
    rw [RB.putBody_hwm]
    exact max_le hm (RB.occ_le hh' ht')
  refine ⟨⟨?_, ?_, ?_, ?_, ?_, ?_, ?_, ?_⟩, ?_⟩
  · simpa using Memory.wf_write _ _ h.wf
  · simpa using Memory.within_write _ hh h.within
  · exact hh'.trans_le (le_two_pow_idxw c)
  · exact ht'.trans_le (le_two_pow_idxw c)
  · exact hm'.trans_lt (lt_two_pow_occw c)
  · simpa using wrap_lt w _
  · simpa using h.gets
  · rw [RB.putBody_ovf]
    split
    · exact wrap_lt w _
    · exact h.ovf
  · exact RB.flags_congr (RB.putBody_usable ..) (iff_of_true hh' hh) (iff_of_true ht' ht) (iff_of_true hm' hm)

theorem RB.InWidths.advanceTail (h : b.InWidths c w) (ht : b.tail < c) : (b.advanceTail c).InWidths c w :=
  { h with tail := (inc_lt ht).trans_le (le_two_pow_idxw c) }

theorem RB.InWidths.countGet (h : b.InWidths c w) : (b.countGet w).InWidths c w :=
  { h with gets := wrap_lt w _ }

theorem RB.InWidths.clearFull (h : b.InWidths c w) : b.clearFull.InWidths c w := { h with }

theorem RB.InWidths.zeroHead (h : b.InWidths c w) : b.zeroHead.InWidths c w := { h with head := Nat.two_pow_pos _ }

theorem RB.InWidths.zeroTail (h : b.InWidths c w) : b.zeroTail.InWidths c w := { h with tail := Nat.two_pow_pos _ }

theorem RB.InWidths.taken (h : b.InWidths c w) (ht : b.tail < c) : (b.taken c w).InWidths c w :=
  (h.clearFull.advanceTail ht).countGet

theorem RB.InWidths.clear (h : b.InWidths c w) : b.clear.InWidths c w := h.zeroHead.zeroTail.clearFull

end Widths

/-- The registers a failed construction leaves are free values of their own widths (R50). -/
theorem RB.inWidths_unusableFrom (c w n : Nat) : (RB.unusableFrom c w n).InWidths c w :=
  ⟨rfl, rfl, wrap_lt _ _, wrap_lt _ _, wrap_lt _ _, wrap_lt _ _, wrap_lt _ _, wrap_lt _ _⟩

/-- One write of a construction stays inside the widths (R130, R50). -/
theorem BuildAct.inWidths {c w : Nat} {b : RB} (h : b.InWidths c w) (a : BuildAct) : (a.apply c w b).InWidths c w := by
  cases a with
  | dropSlots => exact { h with wf := rfl, within := rfl }
  | zeroHead => exact h.zeroHead
  | zeroTail => exact h.zeroTail
  | clearFull => exact h.clearFull
  | zeroPuts => exact { h with puts := Nat.two_pow_pos _ }
  | zeroGets => exact { h with gets := Nat.two_pow_pos _ }
  | zeroOvf => exact { h with ovf := Nat.two_pow_pos _ }
  | zeroHwm => exact { h with hwm := Nat.two_pow_pos _ }
  | setUsable u => exact { h with }
  | fail n => exact { RB.inWidths_unusableFrom c w n with wf := h.wf, within := h.within }

/-- A constructed buffer is inside the widths, and in range if it is usable (R130, R50). -/
theorem constructed_inWidths (c w : Nat) (ok : Bool) (n : Nat) :
    (constructed c w ok n).InWidths c w ∧ ((constructed c w ok n).flags c).Valid := by
  refine ⟨?_, RB.flags_valid_iff.2 fun hu => ?_⟩
  · rcases constructed_cases c w ok n with ⟨-, he⟩ | ⟨-, he⟩ <;> rw [he]
    · exact ⟨rfl, rfl, Nat.two_pow_pos _, Nat.two_pow_pos _, Nat.two_pow_pos _, Nat.two_pow_pos _, Nat.two_pow_pos _,
        Nat.two_pow_pos _⟩
    · exact RB.inWidths_unusableFrom c w n
  · obtain ⟨hc, he⟩ := constructed_usable hu
    rw [he]
    exact ⟨hc, hc, hc, Nat.zero_le c⟩

/-! ### The flags of a buffer after each operation -/

/-- The increment neither enters nor leaves the range of the indices. -/
theorem inc_lt_iff {c i : Nat} : inc c i < c ↔ i < c := by
  unfold inc
  split <;> omega

theorem RB.flags_advanceTail (c : Nat) (b : RB) : (b.advanceTail c).flags c = b.flags c :=
  RB.flags_congr rfl Iff.rfl inc_lt_iff Iff.rfl

theorem RB.flags_taken (c w : Nat) (b : RB) : (b.taken c w).flags c = b.flags c :=
  RB.flags_congr rfl Iff.rfl inc_lt_iff Iff.rfl

theorem RB.flags_clear {c : Nat} {b : RB} (hv : (b.flags c).Valid) (hu : b.usable = true) :
    b.clear.flags c = b.flags c := by
  obtain ⟨hc, hh, ht, -⟩ := RB.flags_valid_iff.1 hv hu
  exact RB.flags_congr rfl (iff_of_true hc hh) (iff_of_true hc ht) Iff.rfl

/-- One write of a construction writes the flags as its own table says. -/
theorem BuildAct.flags_apply (c w : Nat) (a : BuildAct) (b : RB) : (a.apply c w b).flags c = a.flags c w (b.flags c) := by
  cases a <;> rfl

/-- A micro-step writes the flags as its own table says. -/
theorem MicroAct.flags_onRing (u : UnitId) (k : RingId) (c w : Nat) (a : MicroAct) (b : RB) :
    (a.onRing u k c w b).flags c = a.flags u k c w (b.flags c) := by
  cases a with
  | build j d =>
    simp only [MicroAct.onRing, MicroAct.flags]
    split
    · exact BuildAct.flags_apply c w d b
    · rfl
  | advanceTail =>
    simp only [MicroAct.onRing, MicroAct.flags]
    split
    · exact RB.flags_advanceTail c b
    · rfl
  | clearFull | countGet | zeroHead | zeroTail =>
    simp only [MicroAct.onRing, MicroAct.flags]
    split <;> rfl
  | countReceived | countSent | storePoll | storeXtal | writeSt | writeIrq | callChip | checkNotEmpty | readFrame
  | answerLatched | answerPeek | answerTime | sample | answer | readReceived | readSent => rfl

/-- A micro-step stays inside the widths; `tail` is advanced from a valid index only (R281). -/
theorem MicroAct.inWidths_onRing {u : UnitId} {k : RingId} {c w : Nat} {a : MicroAct} {b : RB} (h : b.InWidths c w)
    (ht : k = ringOf u → a = .advanceTail → b.tail < c) : (a.onRing u k c w b).InWidths c w := by
  cases a with
  | advanceTail =>
    simp only [MicroAct.onRing]
    split
    · exact h.advanceTail (ht ‹_› rfl)
    · exact h
  | clearFull => simp only [MicroAct.onRing]; split; exacts [h.clearFull, h]
  | countGet => simp only [MicroAct.onRing]; split; exacts [h.countGet, h]
  | zeroHead => simp only [MicroAct.onRing]; split; exacts [h.zeroHead, h]
  | zeroTail => simp only [MicroAct.onRing]; split; exacts [h.zeroTail, h]
  | build j d => simp only [MicroAct.onRing]; split; exacts [d.inWidths h, h]
  | countReceived | countSent | storePoll | storeXtal | writeSt | writeIrq | callChip | checkNotEmpty | readFrame
  | answerLatched | answerPeek | answerTime | sample | answer | readReceived | readSent => exact h

/-! ### The shape of a state, buffer by buffer and unit by unit -/

/-- The unit whose operations may write a buffer (R78). -/
def RingId.owner : RingId → UnitId
  | .rb => .rb
  | .rx | .tx => .adp

/-- Unit `u` may run the micro-steps `acts`: they are its own, its buffers stay valid along them, and the adapter's
registers agree wherever they can end. -/
structure State.Admits (u : UnitId) (acts : List MicroAct) (s : State) : Prop where
  belongs : ∀ a ∈ acts, a.belongsTo u = true
  settles : ∀ k : RingId, k.owner = u →
    ((s.ring k).flags (s.ringCap k)).Settles u k (s.ringCap k) s.cfg.cntw acts
  regs : u = .adp → s.adpRegs.Settles acts

/-- `State.Shape` with one clause for all buffers and one for both units. -/
structure State.Shaped (s : State) : Prop where
  rings : ∀ k : RingId, (s.ring k).InWidths (s.ringCap k) s.cfg.cntw
  rxCount : s.rxCount < 2 ^ s.cfg.cntw
  txCount : s.txCount < 2 ^ s.cfg.cntw
  admits : ∀ u : UnitId, s.Admits u (s.micro u).todo
  quiet : s.cfg.atomic = true → s.quiet

theorem BufFlags.Settles.valid {u : UnitId} {k : RingId} {c w : Nat} {f : BufFlags} {acts : List MicroAct}
    (h : BufFlags.Settles u k c w f acts) : f.Valid := by
  cases acts with
  | nil => exact h
  | cons a rest => exact h.1

theorem State.Shaped.valid {s : State} (h : s.Shaped) (k : RingId) : ((s.ring k).flags (s.ringCap k)).Valid :=
  ((h.admits k.owner).settles k rfl).valid

theorem State.shape_iff {s : State} : s.Shape ↔ s.Shaped := by
  constructor
  · rintro ⟨hrb, hrx, htx, hrc, htc, hbr, hba, hsrb, hsrx, hstx, hregs, hq⟩
    refine ⟨fun k => ?_, hrc, htc, fun u => ?_, hq⟩
    · cases k
      exacts [(RB.shape_iff.1 hrb).1, (RB.shape_iff.1 hrx).1, (RB.shape_iff.1 htx).1]
    · cases u
      · refine ⟨hbr, fun k hk => ?_, fun h => by cases h⟩
        cases k <;> cases hk
        exact hsrb
      · refine ⟨hba, fun k hk => ?_, fun _ => hregs⟩
        cases k <;> cases hk
        exacts [hsrx, hstx]
  · intro h
    have hring (k : RingId) : (s.ring k).Shape (s.ringCap k) s.cfg.cntw := RB.shape_iff.2 ⟨h.rings k, h.valid k⟩
    obtain ⟨hbr, hsr, -⟩ := h.admits .rb
    obtain ⟨hba, hsa, hregs⟩ := h.admits .adp
    exact ⟨hring .rb, hring .rx, hring .tx, h.rxCount, h.txCount, hbr, hba, hsr .rb rfl, hsa .rx rfl, hsa .tx rfl,
      hregs rfl, h.quiet⟩

/-- The shape speaks of no latch, input or output, nor of the count of free values. -/
theorem State.Shaped.congr {s : State} (h : s.Shaped) (free : Nat) (port : Port) (env : Env) (inputs : List Input)
    (resp : Option Response) (calls : List ChipCall) :
    ({ s with free := free, port := port, env := env, inputs := inputs, resp := resp, calls := calls } : State).Shaped :=
  State.shape_iff.1 (State.shape_iff.2 h : s.Shape)

theorem State.Shaped.withResp {s : State} (h : s.Shaped) (r : Response) : (s.withResp r).Shaped := h.congr ..

theorem State.ringCap_of_cfg {s t : State} (h : t.cfg = s.cfg) (k : RingId) : t.ringCap k = s.ringCap k := by
  cases k <;> simp [State.ringCap, h]

/-- What a unit may run depends on the flags of its own buffers and, for the adapter, on its registers. -/
theorem State.Admits.of_flags {u : UnitId} {acts : List MicroAct} {s t : State} (h : s.Admits u acts)
    (hcfg : t.cfg = s.cfg)
    (hf : ∀ k : RingId, k.owner = u → (t.ring k).flags (s.ringCap k) = (s.ring k).flags (s.ringCap k))
    (hr : u = .adp → t.adpRegs = s.adpRegs) : t.Admits u acts := by
  refine ⟨h.belongs, fun k hk => ?_, fun hu => ?_⟩
  · rw [State.ringCap_of_cfg hcfg, hcfg, hf k hk]
    exact h.settles k hk
  · rw [hr hu]
    exact h.regs hu

/-! ### A micro-step keeps the shape -/

/-- A unit's micro-step leaves the buffers of the other unit (R78). -/
theorem MicroAct.onRing_of_other_owner {u : UnitId} {a : MicroAct} (ha : a.belongsTo u = true) {k : RingId}
    (hk : k.owner ≠ u) (c w : Nat) (b : RB) : a.onRing u k c w b = b := by
  have hne : k ≠ ringOf u := by
    rintro rfl
    cases u <;> exact hk rfl
  cases a with
  | build j d =>
    have hj : k ≠ j := by
      rintro rfl
      cases u <;> cases k <;> simp_all [MicroAct.belongsTo, RingId.owner]
    simp [MicroAct.onRing, hj]
  | clearFull | advanceTail | countGet | zeroHead | zeroTail => simp [MicroAct.onRing, hne]
  | countReceived | countSent | storePoll | storeXtal | writeSt | writeIrq | callChip | checkNotEmpty | readFrame
  | answerLatched | answerPeek | answerTime | sample | answer | readReceived | readSent => rfl

/-- A micro-step of the standalone buffer leaves the adapter's registers (R78). -/
theorem MicroAct.regs_of_belongs_rb {a : MicroAct} (ha : a.belongsTo .rb = true) (r : AdpRegs) : a.regs r = r := by
  cases a with
  | build j d =>
    obtain rfl : j = .rb := by simpa [MicroAct.belongsTo] using ha
    rfl
  | countReceived | countSent | storePoll | storeXtal | writeSt | writeIrq | callChip | readReceived | readSent =>
    cases ha
  | clearFull | advanceTail | countGet | zeroHead | zeroTail | checkNotEmpty | readFrame | answerLatched | answerPeek
  | answerTime | sample | answer => rfl

/-- A micro-step leaves the message counters, or counts one message (R190, R196). -/
theorem State.effect_counts (u : UnitId) (a : MicroAct) (s : State) :
    ((s.effect u a).rxCount = s.rxCount ∨ (s.effect u a).rxCount = wrap s.cfg.cntw (s.rxCount + 1)) ∧
    ((s.effect u a).txCount = s.txCount ∨ (s.effect u a).txCount = wrap s.cfg.cntw (s.txCount + 1)) := by
  cases a <;> simp [State.effect]

/-- An operation that may end with its next micro-step may end now. -/
theorem State.Admits.ended {u : UnitId} {a : MicroAct} {rest : List MicroAct} {s : State} (h : s.Admits u (a :: rest))
    (ha : a.mayEnd = true) : s.Admits u [] :=
  ⟨by simp, fun k hk => (h.settles k hk).valid, fun hu => (h.regs hu).1 ha⟩

/-- An operation that has read what it answers has only the answer to give. -/
theorem State.Admits.answered {u : UnitId} {a : MicroAct} {rest : List MicroAct} {s : State} (h : s.Admits u (a :: rest))
    (ha : a.mayEnd = true) (r : Response) : s.Admits u (.answer r :: rest) := by
  refine ⟨?_, fun k hk => ⟨(h.settles k hk).valid, .inl rfl⟩, fun hu => ⟨fun _ => (h.regs hu).1 ha, .inl rfl⟩⟩
  rintro b (_ | ⟨_, hb⟩)
  · cases u <;> rfl
  · exact h.belongs b (.tail _ hb)

/-- After a micro-step that does not end its operation the rest of it may run. -/
theorem State.Admits.effect {u : UnitId} {a : MicroAct} {rest : List MicroAct} {s : State} (h : s.Admits u (a :: rest))
    (ha : a.ends = false) : (s.effect u a).Admits u rest := by
  have hne : ¬ a.ends = true := by simp [ha]
  have hcfg : (s.effect u a).cfg = s.cfg := State.effect_cfg u a s
  refine ⟨fun b hb => h.belongs b (.tail _ hb), fun k hk => ?_, fun hu => ?_⟩
  · obtain ⟨-, hrest⟩ := h.settles k hk
    rw [State.effect_ring, State.ringCap_of_cfg hcfg, hcfg, MicroAct.flags_onRing]
    exact (hrest.resolve_left hne).2
  · rw [State.effect_adpRegs]
    exact (h.regs hu).2.resolve_left hne

/-- A unit's micro-step leaves what the other unit may run. -/
theorem State.Admits.effect_other {u v : UnitId} {a : MicroAct} {acts : List MicroAct} {s : State} (h : s.Admits v acts)
    (ha : a.belongsTo u = true) (huv : v ≠ u) : (s.effect u a).Admits v acts := by
  refine h.of_flags (State.effect_cfg u a s) (fun k hk => ?_) fun hv => ?_
  · rw [State.effect_ring, MicroAct.onRing_of_other_owner ha (hk ▸ huv)]
  · obtain rfl : u = .rb := by cases u <;> simp_all
    rw [State.effect_adpRegs, MicroAct.regs_of_belongs_rb ha]

/-- A state that is shaped but for the operation in progress on `u`, which is replaced by one that `u` may run. -/
theorem State.Shaped.of_setMicro {u : UnitId} {m : Micro} {s : State}
    (hrings : ∀ k : RingId, (s.ring k).InWidths (s.ringCap k) s.cfg.cntw) (hrx : s.rxCount < 2 ^ s.cfg.cntw)
    (htx : s.txCount < 2 ^ s.cfg.cntw) (hu : s.Admits u m.todo) (hother : ∀ v ≠ u, s.Admits v (s.micro v).todo)
    (ha : s.cfg.atomic = false) : (s.setMicro u m).Shaped := by
  have keep {v : UnitId} {acts : List MicroAct} (h : s.Admits v acts) : (s.setMicro u m).Admits v acts :=
    h.of_flags (by simp) (fun k _ => by rw [State.setMicro_ring]) fun _ => by simp [State.adpRegs]
  have hcap (k : RingId) : (s.setMicro u m).ringCap k = s.ringCap k := State.ringCap_of_cfg (by simp) k
  refine ⟨fun k => ?_, by simpa using hrx, by simpa using htx, fun v => ?_, fun h => by simp [ha] at h⟩
  · rw [State.setMicro_ring, hcap, State.setMicro_cfg]
    exact hrings k
  · by_cases hv : v = u
    · subst hv
      simpa using keep hu
    · have hm : (s.setMicro u m).micro v = s.micro v := by
        cases u <;> cases v <;> simp_all [State.micro]
      rw [hm]
      exact keep (hother v hv)

/-- With no operation split into micro-steps there is none in progress (R63). -/
theorem State.Shaped.not_atomic {s : State} (h : s.Shaped) {u : UnitId} (hne : (s.micro u).todo ≠ []) :
    s.cfg.atomic = false := by
  cases ha : s.cfg.atomic
  · rfl
  · exact absurd ((h.quiet ha).micro_todo u) hne

/-- The effect of a micro-step stays inside the widths. -/
theorem State.Shaped.effect_rings {s : State} (h : s.Shaped) {u : UnitId} {a : MicroAct} {rest : List MicroAct}
    (hacts : s.Admits u (a :: rest)) (k : RingId) :
    ((s.effect u a).ring k).InWidths ((s.effect u a).ringCap k) (s.effect u a).cfg.cntw := by
  rw [State.effect_ring, State.ringCap_of_cfg (State.effect_cfg u a s), State.effect_cfg]
  refine MicroAct.inWidths_onRing (h.rings k) ?_
  rintro rfl rfl
  have hk : (ringOf u).owner = u := by cases u <;> rfl
  obtain ⟨hv, hrest⟩ := hacts.settles (ringOf u) hk
  have husable : ((s.ring (ringOf u)).flags (s.ringCap (ringOf u))).usable = true :=
    (hrest.resolve_left (by simp [MicroAct.ends])).1 rfl rfl
  obtain ⟨-, -, htail, -⟩ := RB.flags_valid_iff.1 hv husable
  exact htail

/-- A micro-step keeps the shape (R281). -/
theorem State.Shaped.microStep {s t : State} {u : UnitId} (hs : s.Shaped) (h : s.microStep u = .next t) : t.Shaped := by
  rcases State.microStep_next h with ⟨-, rfl⟩ | ⟨a, rest, htodo, hrun⟩
  · exact hs
  have hacts : s.Admits u (a :: rest) := htodo ▸ hs.admits u
  have ha := hs.not_atomic (u := u) (by simp [htodo])
  rcases State.runAct_next hrun with ⟨hend, r, rfl⟩ | ⟨hend, l, rfl⟩ | ⟨hend, r, rfl⟩
  · exact (State.Shaped.of_setMicro (m := Micro.idle) hs.rings hs.rxCount hs.txCount (hacts.ended hend)
      (fun v _ => hs.admits v) ha).withResp r
  · obtain ⟨hrx, htx⟩ := s.effect_counts u a
    refine State.Shaped.of_setMicro (hs.effect_rings hacts) ?_ ?_ (hacts.effect hend) (fun v hv => ?_) (by simpa using ha)
    · rw [State.effect_cfg]
      exact hrx.elim (· ▸ hs.rxCount) (· ▸ wrap_lt _ _)
    · rw [State.effect_cfg]
      exact htx.elim (· ▸ hs.txCount) (· ▸ wrap_lt _ _)
    · have hm : (s.effect u a).micro v = s.micro v := by cases v <;> simp [State.micro]
      rw [hm]
      exact (hs.admits v).effect_other (hacts.belongs a (.head _)) hv
  · exact State.Shaped.of_setMicro hs.rings hs.rxCount hs.txCount (hacts.answered hend r) (fun v _ => hs.admits v) ha

/-- Beginning an operation that its unit may run keeps the shape (R280). -/
theorem State.Shaped.startMicro {s t : State} {u : UnitId} {acts : List MicroAct} (hs : s.Shaped)
    (ha : s.cfg.atomic = false) (hacts : s.Admits u acts) (h : s.startMicro u acts = .next t) : t.Shaped :=
  State.Shaped.microStep (State.Shaped.of_setMicro hs.rings hs.rxCount hs.txCount hacts (fun v _ => hs.admits v) ha) h

/-! ### The micro-steps a unit may run -/

/-- The micro-step configures: it writes a construction's or one of the adapter's registers. -/
def MicroAct.configures : MicroAct → Bool
  | .build _ _ | .storePoll _ | .storeXtal _ | .writeSt _ | .writeIrq _ => true
  | .clearFull | .advanceTail | .countGet | .zeroHead | .zeroTail | .countReceived | .countSent | .callChip _ => false
  | .checkNotEmpty _ | .readFrame | .answerLatched | .answerPeek | .answerTime | .sample _ | .answer _ => false
  | .readReceived | .readSent => false

/-- Micro-steps that leave the flags may come first. -/
theorem BufFlags.settles_append {u : UnitId} {k : RingId} {c w : Nat} {f : BufFlags} {pre rest : List MicroAct}
    (h : ∀ a ∈ pre, (k = ringOf u → a = .advanceTail → f.usable = true) ∧ a.flags u k c w f = f)
    (hrest : BufFlags.Settles u k c w f rest) : BufFlags.Settles u k c w f (pre ++ rest) := by
  induction pre with
  | nil => exact hrest
  | cons a pre ih =>
    obtain ⟨ht, hf⟩ := h a (.head _)
    refine ⟨hrest.valid, .inr ⟨ht, ?_⟩⟩
    rw [hf]
    exact ih fun b hb => h b (.tail _ hb)

/-- Micro-steps that leave the adapter's registers and end nothing may come first. -/
theorem AdpRegs.settles_append {r : AdpRegs} {pre rest : List MicroAct}
    (h : ∀ a ∈ pre, (a.mayEnd = true → r.Agree) ∧ a.regs r = r) (hrest : r.Settles rest) :
    r.Settles (pre ++ rest) := by
  induction pre with
  | nil => exact hrest
  | cons a pre ih =>
    obtain ⟨hend, hr⟩ := h a (.head _)
    refine ⟨hend, .inr ?_⟩
    rw [hr]
    exact ih fun b hb => h b (.tail _ hb)

/-- A micro-step that does not configure leaves the flags of a usable buffer, and of one its unit does not read. -/
theorem MicroAct.flags_of_not_configures {u : UnitId} {k : RingId} {c w : Nat} {a : MicroAct} {f : BufFlags}
    (ha : a.configures = false) (hk : k = ringOf u → f.head = true ∧ f.tail = true ∧ 0 < c) :
    a.flags u k c w f = f := by
  cases a with
  | zeroHead =>
    simp only [MicroAct.flags]
    split
    · obtain ⟨hh, -, hc⟩ := hk ‹_›
      rw [decide_eq_true hc, ← hh]
    · rfl
  | zeroTail =>
    simp only [MicroAct.flags]
    split
    · obtain ⟨-, ht, hc⟩ := hk ‹_›
      rw [decide_eq_true hc, ← ht]
    · rfl
  | build | storePoll | storeXtal | writeSt | writeIrq => cases ha
  | clearFull | advanceTail | countGet | countReceived | countSent | callChip | checkNotEmpty | readFrame
  | answerLatched | answerPeek | answerTime | sample | answer | readReceived | readSent => rfl

theorem MicroAct.regs_of_not_configures {a : MicroAct} (ha : a.configures = false) (r : AdpRegs) : a.regs r = r := by
  cases a with
  | build | storePoll | storeXtal | writeSt | writeIrq => cases ha
  | clearFull | advanceTail | countGet | zeroHead | zeroTail | countReceived | countSent | callChip | checkNotEmpty
  | readFrame | answerLatched | answerPeek | answerTime | sample | answer | readReceived | readSent => rfl

/-- A unit with a usable buffer and nothing in progress may run micro-steps of its own that do not configure. -/
theorem State.Admits.of_not_configures {u : UnitId} {acts : List MicroAct} {s : State} (h : s.Admits u [])
    (hu : (s.buf u).usable = true) (hacts : ∀ a ∈ acts, a.belongsTo u = true ∧ a.configures = false) :
    s.Admits u acts := by
  refine ⟨fun a ha => (hacts a ha).1, fun k hk => ?_, fun hadp => ?_⟩
  · have hv := h.settles k hk
    have hfixed : ∀ a ∈ acts, (k = ringOf u → a = .advanceTail → ((s.ring k).flags (s.ringCap k)).usable = true) ∧
        a.flags u k (s.ringCap k) s.cfg.cntw ((s.ring k).flags (s.ringCap k)) = (s.ring k).flags (s.ringCap k) := by
      refine fun a ha => ⟨?_, MicroAct.flags_of_not_configures (hacts a ha).2 ?_⟩
      · rintro rfl -
        simpa [RB.flags] using hu
      · rintro rfl
        rw [← State.ring_ringOf] at hu
        obtain ⟨hh, ht, -⟩ := hv hu
        exact ⟨hh, ht, (RB.flags_valid_iff.1 hv hu).1⟩
    simpa using BufFlags.settles_append (rest := []) hfixed hv
  · have hagree : s.adpRegs.Agree := h.regs hadp
    have hfixed : ∀ a ∈ acts, (a.mayEnd = true → s.adpRegs.Agree) ∧ a.regs s.adpRegs = s.adpRegs :=
      fun a ha => ⟨fun _ => hagree, MicroAct.regs_of_not_configures (hacts a ha).2 _⟩
    simpa using AdpRegs.settles_append (rest := []) hfixed hagree

/-- Only constructions and initialisations configure. -/
theorem State.actsOf_not_configures {i : Instr} {u : UnitId} (s : State) (hi : u.consumerPort.accepts i = true)
    (hc : i ≠ .construct) (hni : ∀ p x, i ≠ .init p x) (hnr : i ≠ .reset) :
    ∀ a ∈ s.actsOf i, a.belongsTo u = true ∧ a.configures = false := by
  cases i with
  | construct => exact absurd rfl hc
  | init p x => exact absurd rfl (hni p x)
  | reset => exact absurd rfl hnr
  | put | pstep => cases u <;> cases hi
  | get | peek | instime | clear | avail | occ | free | full | empty | hwm | putcnt | getcnt | ovfcnt =>
    cases u <;> simp [State.actsOf, getActs, peekActs, instimeActs, clearActs, accessorActs, MicroAct.belongsTo,
      MicroAct.configures]
  | aavail | getmsg | rxcnt | txcnt =>
    cases u <;> cases hi
    simp [State.actsOf, accessorActs, getmsgActs, MicroAct.belongsTo, MicroAct.configures]
  | send f rtr ext prio =>
    cases u <;> cases hi
    cases h : s.env.send <;> simp [State.actsOf, sendActs, h, MicroAct.belongsTo, MicroAct.configures]

/-- Every write of a construction of `k` is a micro-step that writes `k`. -/
theorem mem_constructActs {k : RingId} {c n : Nat} {ok : Bool} {a : MicroAct} (h : a ∈ constructActs k c ok n) :
    ∃ b, a = .build k b := by
  obtain ⟨b, -, rfl⟩ := List.mem_map.1 h
  exact ⟨b, rfl⟩

/-- A buffer stays valid along the writes of its construction, which leave the flags of the constructed buffer (R130). -/
theorem BufFlags.settles_constructActs {u : UnitId} {k : RingId} {c w n : Nat} {ok : Bool} {f : BufFlags}
    {rest : List MicroAct} (hf : f.Valid) (hc : f.usable = true → 0 < c)
    (hrest : BufFlags.Settles u k c w ((constructed c w ok n).flags c) rest) :
    BufFlags.Settles u k c w f (constructActs k c ok n ++ rest) := by
  cases ok
  · simpa [constructActs, buildActs, MicroAct.flags, BuildAct.flags, MicroAct.ends] using ⟨hf, hrest⟩
  · have hhead : BufFlags.Valid { f with head := decide (0 < c) } := fun hu => ⟨decide_eq_true (hc hu), (hf hu).2⟩
    have htail : BufFlags.Valid { f with head := decide (0 < c), tail := decide (0 < c) } := fun hu =>
      ⟨decide_eq_true (hc hu), decide_eq_true (hc hu), (hf hu).2.2⟩
    have hhwm : BufFlags.Valid { f with head := decide (0 < c), tail := decide (0 < c), hwm := true } := fun hu =>
      ⟨decide_eq_true (hc hu), decide_eq_true (hc hu), rfl⟩
    have hend : (constructed c w true n).flags c = ⟨decide (1 ≤ c), decide (0 < c), decide (0 < c), true⟩ := rfl
    rw [hend] at hrest
    simp only [constructActs, buildActs, if_true, List.map_cons, List.map_nil, List.cons_append, List.nil_append,
      BufFlags.settles_cons, MicroAct.flags, BuildAct.flags]
    simp only [MicroAct.ends, Bool.false_eq_true, false_or, reduceCtorEq, IsEmpty.forall_iff, implies_true, true_and]
    exact ⟨hf, hf, hhead, htail, htail, htail, htail, htail, hhwm, hrest⟩

/-- The construction of another buffer leaves the flags. -/
theorem BufFlags.settles_constructActs_other {u : UnitId} {j k : RingId} (hjk : k ≠ j) {c w d n : Nat} {ok : Bool}
    {f : BufFlags} {rest : List MicroAct} (hrest : BufFlags.Settles u k c w f rest) :
    BufFlags.Settles u k c w f (constructActs j d ok n ++ rest) := by
  refine BufFlags.settles_append (fun a ha => ?_) hrest
  obtain ⟨b, rfl⟩ := mem_constructActs ha
  exact ⟨fun _ h => (by cases h), by simp [MicroAct.flags, hjk]⟩

/-- The writes of a construction of `rx` end with the adapter told whether it is usable. -/
theorem AdpRegs.settles_constructActs_rx {c w n : Nat} {ok : Bool} {r : AdpRegs} {rest : List MicroAct}
    (hrest : AdpRegs.Settles { r with rxUsable := (constructed c w ok n).usable } rest) :
    r.Settles (constructActs .rx c ok n ++ rest) := by
  cases ok <;>
    simpa [constructActs, buildActs, MicroAct.regs, MicroAct.mayEnd, MicroAct.ends, constructed, RB.unusableFrom] using hrest

/-- The construction of `tx` leaves the adapter's registers. -/
theorem AdpRegs.settles_constructActs_tx {c n : Nat} {ok : Bool} {r : AdpRegs} {rest : List MicroAct}
    (hrest : r.Settles rest) : r.Settles (constructActs .tx c ok n ++ rest) := by
  refine AdpRegs.settles_append (fun a ha => ?_) hrest
  obtain ⟨b, rfl⟩ := mem_constructActs ha
  exact ⟨fun h => (by cases h), rfl⟩

/-- The last micro-steps of an initialisation: the chip's part and the registration, or the answer `INIT_FAIL` (R182). -/
def State.initTail (poll : Bool) (xtal : Xtal) (s : State) : List MicroAct :=
  if s.buffersAllocated && decide (xtal ≠ 3#2) then chipActs s.env poll xtal else [.answer (.rs .initFail)]

theorem State.initActs_eq (poll : Bool) (xtal : Xtal) (s : State) :
    s.initActs poll xtal = [.writeSt .uninit, .writeIrq false] ++ (constructActs .rx s.cfg.rxC s.env.allocOkRx s.free ++
      (constructActs .tx s.cfg.txC s.env.allocOkTx (s.free + unusableFreeValues) ++ s.initTail poll xtal)) := by
  simp [State.initActs, State.initTail]

/-- The chip's part calls the chip, registers and answers. -/
theorem State.mem_initTail {poll : Bool} {xtal : Xtal} {s : State} {a : MicroAct} (h : a ∈ s.initTail poll xtal) :
    (∃ c, a = .callChip c) ∨ a = .writeIrq true ∨ a = .writeSt .ready ∨ ∃ r, a = .answer r := by
  revert h
  unfold State.initTail chipActs
  split
  · cases s.env.start
    · simp +contextual [or_imp]
    cases s.env.setMode
    · simp +contextual [or_imp]
    cases poll <;> simp +contextual [or_imp]
  · simp +contextual

/-- The chip's part writes no buffer. -/
theorem BufFlags.settles_initTail {k : RingId} {c w : Nat} {f : BufFlags} (hf : f.Valid) (poll : Bool) (xtal : Xtal)
    (s : State) : BufFlags.Settles .adp k c w f (s.initTail poll xtal) := by
  rw [← List.append_nil (s.initTail poll xtal)]
  refine BufFlags.settles_append (fun a ha => ?_) hf
  rcases State.mem_initTail ha with ⟨c, rfl⟩ | rfl | rfl | ⟨r, rfl⟩ <;> exact ⟨fun _ h => (by cases h), rfl⟩

/-- The adapter's registers agree where the chip's part ends (R182). -/
theorem AdpRegs.settles_initTail {poll : Bool} {xtal : Xtal} {s : State} {r : AdpRegs} (hst : r.st = .uninit)
    (hirq : r.irqReg = false) (hp : r.poll = poll) (hx : r.xtal = xtal)
    (hrx : s.buffersAllocated = true → r.rxUsable = true) : r.Settles (s.initTail poll xtal) := by
  unfold State.initTail
  split
  · rename_i h
    obtain ⟨halloc, hlegal⟩ : s.buffersAllocated = true ∧ xtal ≠ 3#2 := by simpa using h
    have hu := hrx halloc
    unfold chipActs
    cases s.env.start
    · simp [AdpRegs.Agree, MicroAct.mayEnd, MicroAct.ends, MicroAct.regs, hst, hirq]
    cases s.env.setMode
    · simp [AdpRegs.Agree, MicroAct.mayEnd, MicroAct.ends, MicroAct.regs, hst, hirq]
    cases poll <;> simp [AdpRegs.Agree, MicroAct.mayEnd, MicroAct.ends, MicroAct.regs, hirq, hp, hx, hu, hlegal]
  · simp [AdpRegs.Agree, hst, hirq, MicroAct.ends]

/-- In a constructed buffer only the capacity and `alloc_ok` decide whether it is usable (R130). -/
theorem constructed_usable_of_alloc {c w n : Nat} {ok : Bool} (hok : ok = true) (hc : c ≠ 0) :
    (constructed c w ok n).usable = true := by
  subst hok
  exact decide_eq_true (Nat.one_le_iff_ne_zero.2 hc)

/-- A usable buffer of a shaped unit has a slot. -/
theorem State.Admits.cap_pos {u : UnitId} {s : State} (h : s.Admits u []) {k : RingId} (hk : k.owner = u)
    (hu : ((s.ring k).flags (s.ringCap k)).usable = true) : 0 < s.ringCap k :=
  (RB.flags_valid_iff.1 (h.settles k hk) hu).1

/-- The standalone buffer may be constructed (R130). -/
theorem State.Admits.construct {s : State} (h : s.Admits .rb []) (ok : Bool) (n : Nat) (r : Response) :
    s.Admits .rb (constructActs .rb s.cfg.rbC ok n ++ [.answer r]) := by
  refine ⟨fun a ha => ?_, fun k hk => ?_, fun h => by cases h⟩
  · rcases List.mem_append.1 ha with ha | ha
    · obtain ⟨b, rfl⟩ := mem_constructActs ha
      rfl
    · obtain rfl := List.mem_singleton.1 ha
      rfl
  · cases k <;> cases hk
    exact BufFlags.settles_constructActs (h.settles .rb rfl) (h.cap_pos rfl)
      ⟨(constructed_inWidths _ _ _ _).2, .inl rfl⟩

/-- The buffers of the adapter stay valid along an initialisation (R182). -/
theorem State.Admits.settles_initActs {s : State} (h : s.Admits .adp []) (poll : Bool) (xtal : Xtal) {k : RingId}
    (hk : k.owner = .adp) :
    ((s.ring k).flags (s.ringCap k)).Settles .adp k (s.ringCap k) s.cfg.cntw (s.initActs poll xtal) := by
  have hv := h.settles k hk
  rw [State.initActs_eq]
  refine BufFlags.settles_append (by simp [MicroAct.flags]) ?_
  cases k with
  | rb => cases hk
  | rx =>
    exact BufFlags.settles_constructActs hv (h.cap_pos hk) (BufFlags.settles_constructActs_other (by simp)
      (BufFlags.settles_initTail (constructed_inWidths _ _ _ _).2 poll xtal s))
  | tx =>
    exact BufFlags.settles_constructActs_other (by simp) (BufFlags.settles_constructActs hv (h.cap_pos hk)
      (BufFlags.settles_initTail (constructed_inWidths _ _ _ _).2 poll xtal s))

/-- The adapter's registers agree where an initialisation ends, whatever they were (R182). -/
theorem AdpRegs.settles_initActs {poll : Bool} {xtal : Xtal} {s : State} {r : AdpRegs} (hc : s.cfg.rxC ≠ 0)
    (hp : r.poll = poll) (hx : r.xtal = xtal) : r.Settles (s.initActs poll xtal) := by
  rw [State.initActs_eq]
  refine ⟨by simp [MicroAct.mayEnd], .inr ⟨by simp [MicroAct.mayEnd], .inr ?_⟩⟩
  refine AdpRegs.settles_constructActs_rx (w := s.cfg.cntw) (AdpRegs.settles_constructActs_tx ?_)
  refine AdpRegs.settles_initTail rfl rfl hp hx fun halloc => ?_
  exact constructed_usable_of_alloc ((s.buffersAllocated_eq.1 halloc).1.resolve_left hc) hc

/-- The micro-steps of an initialisation are the adapter's. -/
theorem State.belongs_initActs (poll : Bool) (xtal : Xtal) (s : State) :
    ∀ a ∈ s.initActs poll xtal, a.belongsTo .adp = true := by
  intro a ha
  rw [State.initActs_eq] at ha
  rcases List.mem_append.1 ha with ha | ha
  · fin_cases ha <;> rfl
  rcases List.mem_append.1 ha with ha | ha
  · obtain ⟨b, rfl⟩ := mem_constructActs ha
    rfl
  rcases List.mem_append.1 ha with ha | ha
  · obtain ⟨b, rfl⟩ := mem_constructActs ha
    rfl
  rcases State.mem_initTail ha with ⟨c, rfl⟩ | rfl | rfl | ⟨r, rfl⟩ <;> rfl

/-- The adapter may initialise after micro-steps `before` that write no buffer (R182, R204). -/
theorem State.Admits.initialise {s : State} (h : s.Admits .adp []) {poll : Bool} {xtal : Xtal} {before : List MicroAct}
    (hb : ∀ a ∈ before, a.belongsTo .adp = true ∧ a ≠ .advanceTail ∧ ∀ k c w f, a.flags .adp k c w f = f)
    (hr : s.adpRegs.Settles (before ++ s.initActs poll xtal)) : s.Admits .adp (before ++ s.initActs poll xtal) := by
  refine ⟨fun a ha => ?_, fun k hk => ?_, fun _ => hr⟩
  · exact (List.mem_append.1 ha).elim (fun ha => (hb a ha).1) (s.belongs_initActs poll xtal a)
  · refine BufFlags.settles_append (fun a ha => ?_) (h.settles_initActs poll xtal hk)
    obtain ⟨-, hne, hf⟩ := hb a ha
    exact ⟨fun _ h => absurd h hne, hf k _ _ _⟩

/-- A unit with nothing in progress may run the micro-steps of every operation its consumer port accepts, behind the
gates (R280). -/
theorem State.Admits.actsOf {i : Instr} {u : UnitId} {s : State} (h : s.Admits u [])
    (hi : u.consumerPort.accepts i = true) (hst : u = .adp → (∀ p x, i ≠ .init p x) → s.st = .ready)
    (hu : u = .rb → i ≠ .construct → s.rb.usable = true)
    (hc : (∃ p x, i = .init p x) ∨ i = .reset → s.cfg.rxC ≠ 0) : s.Admits u (s.actsOf i) := by
  have usable (hne : i ≠ .construct) (hni : ∀ p x, i ≠ .init p x) : (s.buf u).usable = true := by
    cases u
    · exact hu rfl hne
    · have hagree : s.adpRegs.Agree := h.regs rfl
      exact (hagree.1 (hst rfl hni)).1
  by_cases hcon : i = .construct
  · subst hcon
    cases u <;> cases hi
    exact h.construct _ _ _
  by_cases hini : ∃ p x, i = .init p x
  · obtain ⟨p, x, rfl⟩ := hini
    cases u <;> cases hi
    refine h.initialise (by simp [MicroAct.belongsTo, MicroAct.flags]) ?_
    exact ⟨by simp [MicroAct.mayEnd], .inr ⟨by simp [MicroAct.mayEnd], .inr
      (AdpRegs.settles_initActs (hc (.inl ⟨p, x, rfl⟩)) rfl rfl)⟩⟩
  by_cases hres : i = .reset
  · subst hres
    cases u <;> cases hi
    refine h.initialise (by simp [MicroAct.belongsTo, MicroAct.flags]) ?_
    exact ⟨by simp [MicroAct.mayEnd], .inr ⟨by simp [MicroAct.mayEnd], .inr ⟨by simp [MicroAct.mayEnd], .inr
      (AdpRegs.settles_initActs (hc (.inr rfl)) rfl rfl)⟩⟩⟩
  have hni : ∀ p x, i ≠ .init p x := fun p x h => hini ⟨p, x, h⟩
  exact h.of_not_configures (usable hcon hni) (s.actsOf_not_configures hi hcon hni hres)

/-! ### An instruction keeps the shape -/

theorem State.Shaped.idle {s : State} (h : s.Shaped) {u : UnitId} (hi : (s.micro u).todo = []) : s.Admits u [] :=
  hi ▸ h.admits u

/-- Writing a buffer a unit reads, with the same flags and inside the widths, keeps the shape. -/
theorem State.Shaped.of_setBuf {s : State} {u : UnitId} {b : RB} (hs : s.Shaped)
    (hb : b.InWidths (s.cap u) s.cfg.cntw) (hf : b.flags (s.cap u) = (s.buf u).flags (s.cap u)) :
    (s.setBuf u b).Shaped := by
  have hcfg : (s.setBuf u b).cfg = s.cfg := State.setBuf_cfg u b s
  have hring (k : RingId) : ((s.setBuf u b).ring k).InWidths (s.ringCap k) s.cfg.cntw ∧
      ((s.setBuf u b).ring k).flags (s.ringCap k) = (s.ring k).flags (s.ringCap k) := by
    cases u <;> cases k
    case rb.rb | adp.rx => exact ⟨hb, hf⟩
    all_goals exact ⟨hs.rings _, rfl⟩
  refine ⟨fun k => ?_, by simpa using hs.rxCount, by simpa using hs.txCount, fun v => ?_, fun ha => ?_⟩
  · rw [State.ringCap_of_cfg hcfg, hcfg]
    exact (hring k).1
  · rw [State.setBuf_micro]
    refine (hs.admits v).of_flags hcfg (fun k _ => (hring k).2) fun _ => ?_
    have hu := RB.usable_of_flags hf
    cases u
    · rfl
    · simpa [State.adpRegs, State.buf] using hu
  · simpa [State.quiet] using hs.quiet (by simpa using ha)

theorem State.Shaped.of_counts {s : State} (hs : s.Shaped) {n m : Nat} (hn : n < 2 ^ s.cfg.cntw)
    (hm : m < 2 ^ s.cfg.cntw) : ({ s with rxCount := n, txCount := m } : State).Shaped := by
  obtain ⟨hrb, hrx, htx, -, -, hrest⟩ := State.shape_iff.2 hs
  exact State.shape_iff.1 ⟨hrb, hrx, htx, hn, hm, hrest⟩

/-- A production step keeps the shape (R200). -/
theorem State.Shaped.productionStep {s t : State} (hs : s.Shaped) (h : s.productionStep = .next t) : t.Shaped := by
  rcases State.productionStep_next h with ⟨-, rfl⟩ | ⟨f, -, -, rfl⟩ | ⟨f, -, hu, -, rfl⟩
  · exact hs.congr ..
  · exact hs.congr ..
  · obtain ⟨hb, hf⟩ := (hs.rings .rx).putBody (hs.valid .rx) hu f s.env.now
    exact (hs.of_setBuf (u := .adp) hb hf).congr ..

/-- A construction of the standalone buffer with nothing in progress keeps the shape (R130). -/
theorem State.Shaped.construct {s : State} (hs : s.Shaped) (hq : s.quiet) (ok : Bool) (n : Nat) :
    (s.setBuf .rb (constructed s.cfg.rbC s.cfg.cntw ok n)).Shaped := by
  have hagree : s.adpRegs.Agree := State.agree_of_shape (State.shape_iff.2 hs) hq.2
  exact State.shape_iff.1 (State.shape_of_quiet hq (RB.shape_iff.2 (constructed_inWidths _ _ _ _))
    (RB.shape_iff.2 ⟨hs.rings .rx, hs.valid .rx⟩) (RB.shape_iff.2 ⟨hs.rings .tx, hs.valid .tx⟩) hs.rxCount hs.txCount
    hagree)

/-- A whole initialisation with nothing in progress keeps the shape, whatever the registers agreed on before (R182). -/
theorem State.Shaped.initialised {s : State} (hs : s.Shaped) (hq : s.quiet) {poll : Bool} {xtal : Xtal} {ready : Bool}
    (hc : s.cfg.rxC ≠ 0) (hr : ready = true → s.initSucceeds xtal) (r : Response) (calls : List ChipCall) :
    (s.initialised poll xtal ready r calls).Shaped := by
  refine State.shape_iff.1 (State.shape_of_quiet hq (RB.shape_iff.2 ⟨hs.rings .rb, hs.valid .rb⟩)
    (RB.shape_iff.2 (constructed_inWidths _ _ _ _)) (RB.shape_iff.2 (constructed_inWidths _ _ _ _)) hs.rxCount
    hs.txCount ?_)
  cases ready with
  | false => exact ⟨fun h => (by cases h), fun _ => rfl⟩
  | true =>
    obtain ⟨⟨hrx, -⟩, hlegal, -⟩ := hr rfl
    exact ⟨fun _ => ⟨constructed_usable_of_alloc (hrx.resolve_left hc) hc, rfl, hlegal⟩, fun h => (by cases h)⟩

/-- An instruction keeps the shape where no operation is in progress on the consumer port it arrives on (R280). -/
theorem State.Shaped.exec {i : Instr} {s t : State} (hs : s.Shaped)
    (hidle : ∀ u : UnitId, s.port = u.consumerPort → (s.micro u).todo = []) (h : exec i s = .next t) : t.Shaped := by
  cases exec_executed h with
  | answered => exact hs.congr ..
  | put f hu =>
    obtain ⟨hb, hf⟩ := (hs.rings .rb).putBody (hs.valid .rb) hu f s.env.now
    exact (hs.of_setBuf (u := .rb) hb hf).withResp _
  | get u r ha hu ho ht =>
    have hb := hs.rings (ringOf u)
    rw [State.ring_ringOf, State.ringCap_ringOf] at hb
    exact (hs.of_setBuf (hb.taken ht) (RB.flags_taken _ _ _)).withResp r
  | clear u r ha hu =>
    have hb := hs.rings (ringOf u)
    have hv := hs.valid (ringOf u)
    rw [State.ring_ringOf, State.ringCap_ringOf] at hb hv
    exact (hs.of_setBuf hb.clear (RB.flags_clear hv hu)).withResp r
  | construct n r ha => exact (hs.construct (hs.quiet ha) _ _).congr ..
  | init p x ready r calls ha hc hr => exact hs.initialised (hs.quiet ha) hc hr r calls
  | reset ready r calls ha hc hr => exact hs.initialised (hs.quiet ha) hc hr r calls
  | getmsg r ha hu ho ht =>
    have htaken := hs.of_setBuf (u := .adp) ((hs.rings .rx).taken ht) (RB.flags_taken _ _ _)
    exact (htaken.of_counts (wrap_lt _ _) hs.txCount).withResp r
  | refusedFrame => exact hs.congr ..
  | sent => exact (hs.of_counts hs.rxCount (wrap_lt _ _)).congr ..
  | discarded => exact hs
  | edge hprod => exact hs.productionStep hprod
  | polled r hprod => exact (hs.productionStep hprod).withResp r
  | split u n ha hp hi hst hu hc hsplit =>
    have hacts := (hs.idle (hidle u hp)).actsOf hi hst hu hc
    exact (hs.congr ..).startMicro (s := s.useFree n) ha
      (hacts.of_flags rfl (fun k _ => by rw [State.useFree_ring]) fun _ => rfl) hsplit

/-! ### A step keeps the shape -/

/-- A step takes one micro-step, or serves a request that waits for no operation in progress (R11, R280). -/
theorem step_next {s t : State} (h : step s = .next t) :
    (∃ l u, (s.clearOutputs.withInputs l).microStep u = .next t) ∨
    ∃ r rest, s.waitsFor r.port = none ∧ (s.clearOutputs.sample r rest).serve r = .next t := by
  cases hn : nextInput s.inputs with
  | nothing =>
    rw [step_of_nothing hn, State.proceed] at h
    split at h
    exacts [.inl ⟨s.inputs, .rb, h⟩, .inl ⟨s.inputs, .adp, h⟩]
  | advance u rest =>
    rw [step_of_advance hn] at h
    exact .inl ⟨rest, u, h⟩
  | request r rest =>
    cases hw : s.waitsFor r.port with
    | none =>
      rw [step_of_request hn hw] at h
      exact .inr ⟨r, rest, hw, h⟩
    | some u =>
      have hw' : s.clearOutputs.waitsFor r.port = some u := hw
      simp only [step, State.clearOutputs_inputs, hn, hw'] at h
      exact .inl ⟨_, u, h⟩

/-- Serving a request executes an instruction, or answers, or does nothing (R96, R108). -/
theorem State.serve_next {r : Request} {s t : State} (h : s.serve r = .next t) :
    (∃ i, exec i s = .next t) ∨ (∃ a, t = s.withResp a) ∨ t = s := by
  unfold State.serve at h
  split at h
  · exact .inl ⟨_, h⟩
  · cases h
    exact .inr (.inl ⟨_, rfl⟩)
  · cases h
    exact .inr (.inr rfl)

/-- A request that waits for nothing finds no operation in progress on its consumer port (R280). -/
theorem State.micro_todo_of_waitsFor {p : Port} {s : State} (h : s.waitsFor p = none) {u : UnitId}
    (hp : p = u.consumerPort) : (s.micro u).todo = [] := by
  have hu : consumerUnit p = some u := by
    subst hp
    cases u <;> rfl
  simpa [State.waitsFor, hu, State.busy] using h

theorem State.Shaped.step {s t : State} (hs : s.Shaped) (h : step s = .next t) : t.Shaped := by
  rcases step_next h with ⟨l, u, h⟩ | ⟨r, rest, hw, h⟩
  · exact State.Shaped.microStep (hs.congr s.free s.port s.env l none []) h
  · have hsampled : (s.clearOutputs.sample r rest).Shaped := hs.congr ..
    rcases State.serve_next h with ⟨i, h⟩ | ⟨a, rfl⟩ | rfl
    · refine hsampled.exec (fun u hu => ?_) h
      simpa using State.micro_todo_of_waitsFor hw hu
    · exact hsampled.withResp a
    · exact hsampled

/-- Settles O50, by the shape stated buffer by buffer and unit by unit, which every micro-step and every instruction
keeps. -/
theorem stepKeepsTheShape : Obligations.StepKeepsTheShape := fun _ _ hs h =>
  State.shape_iff.2 ((State.shape_iff.1 hs).step h)

/-! ### A step keeps the invariant -/

/-- The invariant is the shape of an atomic machine with every usable buffer sound. -/
theorem State.inv_iff {s : State} : s.Inv ↔ s.Shaped ∧ s.cfg.atomic = true ∧
    ∀ k : RingId, (s.ring k).usable = true → (s.ring k).Sound (s.ringCap k) := by
  constructor
  · rintro ⟨hs, ha, hrb, hrx, htx⟩
    refine ⟨State.shape_iff.1 hs, ha, fun k => ?_⟩
    cases k
    exacts [hrb, hrx, htx]
  · rintro ⟨hs, ha, h⟩
    exact ⟨State.shape_iff.2 hs, ha, h .rb, h .rx, h .tx⟩

/-- Every change of a buffer by a whole instruction keeps it sound, or constructs it (R32). -/
theorem RingChange.sound {i : Instr} {s : State} {k : RingId} {b : RB} (h : RingChange i s k b)
    (ha : s.cfg.atomic = true) (hs : (s.ring k).usable = true → (s.ring k).Sound (s.ringCap k)) (hb : b.usable = true) :
    b.Sound (s.ringCap k) := by
  cases h with
  | same => exact hs hb
  | put f _ hu => exact (hs hu).putBody _ f _
  | taken _ _ hu ho => exact (hs hu).taken ho _
  | cleared _ _ hu => exact (hs hu).clear
  | built => exact constructed_sound hb
  | zeroHead _ hna | dropSlots _ hna => simp [ha] at hna

theorem State.Inv.exec {i : Instr} {s t : State} (hs : s.Inv) (h : exec i s = .next t) : t.Inv := by
  obtain ⟨hshape, ha, hsound⟩ := State.inv_iff.1 hs
  have hcfg := exec_cfg h
  refine State.inv_iff.2 ⟨hshape.exec (fun u _ => hs.quiet.micro_todo u) h, hcfg ▸ ha, fun k hu => ?_⟩
  rw [State.ringCap_of_cfg hcfg]
  exact (exec_ring h k).sound ha (hsound k) hu

/-- Settles O49: with nothing in progress a step idles or serves a request, and every instruction keeps the invariant. -/
theorem stepKeepsTheInvariant : Obligations.StepKeepsTheInvariant := by
  intro s t hs h
  rcases step_next h with ⟨l, u, h⟩ | ⟨r, rest, -, h⟩
  · have hl : (s.clearOutputs.withInputs l).Inv := hs
    rw [State.microStep_of_idle (hl.quiet.micro_todo u)] at h
    cases h
    exact hl
  · have hr := hs.sampled r rest
    rcases State.serve_next h with ⟨i, h⟩ | ⟨a, rfl⟩ | rfl
    · exact hr.exec h
    · exact hr
    · exact hr

/-- Settles O48: the power-on state has nothing in progress, zero registers and no usable buffer. -/
theorem powerOnMeetsTheInvariants : Obligations.PowerOnMeetsTheInvariants := by
  have hshape : State.reset.Shape := by apply State.shape_of_quiet <;> decide
  have hinv : State.reset.Inv :=
    ⟨hshape, rfl, fun h => (by cases h), fun h => (by cases h), fun h => (by cases h)⟩
  exact ⟨hinv, hshape⟩

end Sys2Proof.Machine

/-! ## Scope: memory — what a buffer holds, the order of coinciding requests, and what a unit leaves of the other -/

namespace Sys2Proof.Machine

/-! ### What a buffer holds (R64) -/

theorem RB.Sound.head_lt {c : Nat} {b : RB} (h : b.Sound c) : b.head < c := h.2.1

theorem RB.Sound.tail_lt {c : Nat} {b : RB} (h : b.Sound c) : b.tail < c := h.2.2.1

/-- What a buffer holds reads the slots, `head`, `tail` and `full` only. -/
theorem RB.contents_congr {c : Nat} {b d : RB} (hm : d.mem = b.mem) (hh : d.head = b.head) (ht : d.tail = b.tail)
    (hf : d.full = b.full) : d.contents c = b.contents c := by
  rw [RB.contents, RB.contents, RB.window, RB.window, RB.occ_congr hh ht hf, hm, ht]

/-- A sound buffer holds as many entries as its occupancy says (R32). -/
theorem RB.Sound.length_contents {c : Nat} {b : RB} (h : b.Sound c) : (b.contents c).length = b.occ c := by
  obtain ⟨-, -, -, -, -, -, -, -, hslots⟩ := h
  have hall : (b.window c).countP (fun i => (Memory.read b.mem i).isSome) = (b.window c).length :=
    List.countP_eq_length.2 hslots
  rw [RB.contents, List.length_filterMap_eq_countP, hall]
  simp [RB.window]

/-- The window of a buffer that is not empty is `tail`, then the window that is left when its entry is taken (R136). -/
theorem RB.window_eq_cons {c : Nat} {b : RB} (ho : b.occ c ≠ 0) (hh : b.head < c) (ht : b.tail < c)
    (hf : b.full = true → b.head = b.tail) (w : Nat) : b.window c = b.tail :: (b.taken c w).window c := by
  rw [RB.window, RB.window, ← RB.occ_taken (w := w) ho hh ht hf, List.range_succ_eq_map, List.map_cons, Nat.add_zero,
    Nat.mod_eq_of_lt ht, List.map_map]
  refine congrArg (b.tail :: ·) (List.map_congr_left fun k _ => ?_)
  exact (inc_add_mod ht k).symm

/-- A sound buffer that is not empty holds the entry at `tail` first, then what is left when that one is taken (R136). -/
theorem RB.Sound.contents_eq_cons {c : Nat} {b : RB} (h : b.Sound c) (ho : b.occ c ≠ 0) (w : Nat) :
    ∃ e, b.tailEntry c = .ok e ∧ b.contents c = e :: (b.taken c w).contents c := by
  obtain ⟨e, he⟩ := h.tailEntry_ok ho
  refine ⟨e, he, ?_⟩
  obtain ⟨-, hh, ht, -, -, hf, -⟩ := h
  rw [RB.contents, RB.window_eq_cons ho hh ht hf w, List.filterMap_cons_some (RB.tailEntry_ok he).2]
  rfl

/-! ### What a `PUT` leaves in a buffer (R132) -/

/-- The slot at `head` of a buffer that is not full lies outside its window (R32). -/
theorem RB.head_notMem_window {c : Nat} {b : RB} (hh : b.head < c) (ht : b.tail < c) (hb : b.full = false) :
    b.head ∉ b.window c := by
  intro hmem
  obtain ⟨k, hk, hkh⟩ := RB.mem_window.1 hmem
  have ho := RB.occ_lt_of_not_full hb hh ht
  have hend : (b.tail + b.occ c) % c = b.head := RB.tail_add_occ_mod hh ht (by simp [hb])
  have hmod : k ≡ b.occ c [MOD c] := Nat.ModEq.add_left_cancel' b.tail (hkh.trans hend.symm)
  exact hk.ne (hmod.eq_of_lt_of_lt (hk.trans ho) ho)

/-- A `PUT` on a buffer that is not full lengthens the window by the slot at `head`. -/
theorem RB.window_putBody_of_not_full {c : Nat} {b : RB} (hh : b.head < c) (ht : b.tail < c) (hb : b.full = false)
    (w : Nat) (f : Frame) (t : Timestamp) : (b.putBody c w f t).window c = b.window c ++ [b.head] := by
  have hend : (b.tail + b.occ c) % c = b.head := RB.tail_add_occ_mod hh ht (by simp [hb])
  have htail : (b.putBody c w f t).tail = b.tail := by simp [hb]
  rw [RB.window, RB.window, RB.occ_putBody_of_not_full hb ht, htail, List.range_succ, List.map_append, List.map_singleton,
    hend]

/-- A `PUT` on a buffer that is not full appends the entry. -/
theorem RB.contents_putBody_of_not_full {c : Nat} {b : RB} (hh : b.head < c) (ht : b.tail < c) (hb : b.full = false)
    (w : Nat) (f : Frame) (t : Timestamp) : (b.putBody c w f t).contents c = b.contents c ++ [⟨f, t⟩] := by
  have hold : ∀ i ∈ b.window c, Memory.read (Memory.write b.mem b.head ⟨f, t⟩) i = Memory.read b.mem i := fun i hi =>
    Memory.read_write_other _ _ (ne_of_mem_of_not_mem hi (RB.head_notMem_window hh ht hb))
  rw [RB.contents, RB.contents, RB.window_putBody_of_not_full hh ht hb, RB.putBody_mem, List.filterMap_append,
    List.filterMap_congr hold]
  simp

/-- A `PUT` on a full buffer holds what it would after a `GET`: the oldest entry makes room (R132). -/
theorem RB.contents_putBody_of_full {c : Nat} {b : RB} (hb : b.full = true) (w : Nat) (f : Frame) (t : Timestamp) :
    (b.putBody c w f t).contents c = ((b.taken c w).putBody c w f t).contents c :=
  RB.contents_congr (by simp) (by simp) (by simp [hb]) (by simp [hb])

/-- A `PUT` on a sound buffer keeps the newest `C` entries, oldest first (R64, R133). -/
theorem RB.Sound.contents_putBody {c : Nat} {b : RB} (h : b.Sound c) (w : Nat) (f : Frame) (t : Timestamp) :
    (b.putBody c w f t).contents c = lastOf c (b.contents c ++ [⟨f, t⟩]) := by
  have hh : b.head < c := h.head_lt
  have ht : b.tail < c := h.tail_lt
  have hlen : (b.contents c ++ [(⟨f, t⟩ : Entry)]).length = b.occ c + 1 := by simp [h.length_contents]
  rw [lastOf, hlen]
  cases hb : b.full
  · have ho := RB.occ_lt_of_not_full hb hh ht
    rw [RB.contents_putBody_of_not_full hh ht hb, Nat.sub_eq_zero_of_le ho, List.drop_zero]
  · have ho : b.occ c = c := RB.occ_of_full hb
    obtain ⟨e, -, he⟩ := h.contents_eq_cons (by omega) w
    rw [RB.contents_putBody_of_full hb, RB.contents_putBody_of_not_full (b := b.taken c w) hh (inc_lt ht) rfl, ho, he,
      Nat.add_sub_cancel_left]
    rfl

/-- A `PUT` on a sound buffer raises the occupancy by one, up to the capacity (R132). -/
theorem RB.Sound.occ_putBody {c : Nat} {b : RB} (h : b.Sound c) (w : Nat) (f : Frame) (t : Timestamp) :
    (b.putBody c w f t).occ c = min (b.occ c + 1) c := by
  obtain ⟨-, hh, ht, -, -, hf, -⟩ := h
  cases hb : b.full
  · rw [RB.occ_putBody_of_not_full hb ht, Nat.min_eq_left (RB.occ_lt_of_not_full hb hh ht)]
  · rw [(RB.occ_putBody_of_full hb (hf hb)).2, RB.occ_of_full hb, Nat.min_eq_right (Nat.le_succ c)]

/-! ### The producer's operations on a usable buffer -/

theorem RB.put_of_usable {c : Nat} {b : RB} (hu : b.usable = true) (hh : b.head < c) (w : Nat) (f : Frame)
    (t : Timestamp) : b.put c w f t = .ok (b.putBody c w f t, .rs .ok) := by
  simp [RB.put, hu, hh]

theorem execPut_of_usable {s : State} (hp : s.port = .rbP) (hu : s.rb.usable = true) (hh : s.rb.head < s.cfg.rbC)
    (f : Frame) : execPut f s =
      .next ((s.setBuf .rb (s.rb.putBody s.cfg.rbC s.cfg.cntw f s.env.now)).withResp (.rs .ok)) := by
  simp [execPut, hp, RB.put_of_usable hu hh, State.finishBuf]

/-- An edge on a registered `READY` adapter that finds a frame puts it into `rx` (R200, R228). -/
theorem execPstep_of_delivered {s : State} {f : Frame} (hst : s.st = .ready) (hi : s.irqReg = true)
    (hu : s.rx.usable = true) (hh : s.rx.head < s.cfg.rxC) (hf : s.env.receive = some f) : execPstep s =
      .next { s.call .receive with rx := s.rx.putBody s.cfg.rxC s.cfg.cntw f s.env.now } := by
  simp [execPstep, State.takeEdge, hst, hi, State.productionStep, hf, RB.put_of_usable hu hh]

/-- Settles O21: both producers run the same `PUT` body, which keeps the newest entries of a sound buffer. -/
theorem producerKeepsTheNewestEntries : Obligations.ProducerKeepsTheNewestEntries := by
  refine ⟨fun s f hp hu hs => ?_, fun s f hst hi hu hs hf => ?_⟩
  · exact ⟨_, execPut_of_usable hp hu hs.head_lt f, hs.contents_putBody .., hs.occ_putBody ..⟩
  · exact ⟨_, execPstep_of_delivered hst hi hu hs.head_lt hf, hs.contents_putBody .., hs.occ_putBody ..⟩

/-! ### The consumer's operations where a unit serves -/

theorem State.serves.useFree {u : UnitId} {s : State} (h : s.serves u) (n : Nat) : (s.useFree n).serves u := by
  cases u <;> exact h

/-- Where a unit serves, an atomic consumer operation is what it makes of the unit's buffer (R63, R210). -/
theorem State.onConsumerPort_of_serves {u : UnitId} {s : State} (h : s.serves u) (ha : s.cfg.atomic = true)
    (fmt : RespFormat) (whole : Nat → Nat → RB → Except Fault (RB × Response)) (acts : List MicroAct) :
    s.onConsumerPort fmt whole acts = s.finishBuf u (whole (s.cap u) s.cfg.cntw (s.buf u)) := by
  obtain ⟨hp, hst, hu⟩ := h
  have onBuffer : s.onBuffer u fmt (whole (s.cap u) s.cfg.cntw) acts =
      s.finishBuf u (whole (s.cap u) s.cfg.cntw (s.buf u)) := by
    rw [State.onBuffer, if_pos hu, State.wholeOrSplit_of_atomic ha]
  rw [← onBuffer]
  cases u with
  | rb => simp only [State.onConsumerPort, hp, UnitId.consumerPort]; rfl
  | adp =>
    simp only [State.onConsumerPort, hp, UnitId.consumerPort, State.whenReady_eq, hst rfl, if_true]
    rfl

section TailEntry
variable {u : UnitId} {s : State} {e : Entry} (hs : s.serves u) (ha : s.cfg.atomic = true)
  (ho : (s.buf u).occ (s.cap u) ≠ 0) (he : (s.buf u).tailEntry (s.cap u) = .ok e)
include hs ha ho he

/-- `GET` takes the entry at `tail` and answers its frame (R136). -/
theorem execGet_of_tailEntry :
    execGet s = .next ((s.setBuf u ((s.buf u).taken (s.cap u) s.cfg.cntw)).withResp (.rf .ok true e.frame)) := by
  simp [execGet, State.onConsumerPort_of_serves hs ha, RB.get, ho, he, State.finishBuf, RB.taken]

/-- `PEEK` answers the frame of the entry at `tail` (R140). -/
theorem execPeek_of_tailEntry : execPeek s = .next (s.withResp (.rf .ok true e.frame)) := by
  simp [execPeek, State.onConsumerPort_of_serves hs ha, RB.peek, ho, he, State.finishBuf]

/-- `INSTIME` answers the timestamp of the entry at `tail` (R144). -/
theorem execInstime_of_tailEntry : execInstime s = .next ((s.useFree 1).withResp (.rt .ok true e.ts)) := by
  simp [execInstime, State.onConsumerPort_of_serves (hs.useFree 1) ha, RB.instime, ho, he, State.finishBuf]

end TailEntry

/-- Settles O22: a sound buffer holds the entry at `tail` first, and what `GET` leaves after it. -/
theorem consumerTakesTheOldestEntry : Obligations.ConsumerTakesTheOldestEntry := by
  intro u s hs ha hsound
  have hlen := hsound.length_contents
  refine ⟨by rw [← hlen, List.length_eq_zero_iff], fun e es hes => ?_⟩
  have ho : (s.buf u).occ (s.cap u) ≠ 0 := by simp [← hlen, hes]
  obtain ⟨d, hd, hcons⟩ := hsound.contents_eq_cons ho s.cfg.cntw
  obtain ⟨rfl, rfl⟩ := List.cons.inj (hes.symm.trans hcons)
  exact ⟨⟨_, execGet_of_tailEntry hs ha ho hd, rfl, by simp⟩, ⟨_, execPeek_of_tailEntry hs ha ho hd, rfl, by simp⟩,
    ⟨_, execInstime_of_tailEntry hs ha ho hd, rfl, by simp⟩⟩

/-! ### Coinciding requests (R72) -/

/-- An instruction writes neither the latches nor the inputs lined up: only sampling does (R8). -/
theorem exec_latches {i : Instr} {s t : State} (h : exec i s = .next t) :
    t.port = s.port ∧ t.env = s.env ∧ t.inputs = s.inputs := by
  cases exec_executed h with
  | answered | put | get | clear | construct | init | reset | getmsg | refusedFrame | sent | discarded =>
    simp [State.initialised]
  | edge hprod | polled r hprod =>
    obtain ⟨b, l, rfl⟩ := State.productionStep_frame hprod
    simp
  | split u n ha hp hi hst hu hc hsplit =>
    obtain ⟨a, rest, hacts, -⟩ := s.actsOf_cons hi
    rw [hacts] at hsplit
    obtain ⟨m, r, rfl⟩ := State.startMicro_effect hsplit
    simp

/-- In a state of the invariant the next request is served in one step: its port and environment inputs are latched, the
inputs after it remain, and the invariant holds again. -/
theorem State.Inv.step_serves {s : State} (hs : s.Inv) (hrx : 1 ≤ s.cfg.rxC) {r : Request} {rest : List Input}
    (hn : nextInput s.inputs = .request r rest) :
    ∃ t, step s = .next t ∧ t.port = r.port ∧ t.env = r.env ∧ t.inputs = rest ∧ t.Inv ∧ 1 ≤ t.cfg.rxC := by
  have hstep := step_of_request hn (hs.quiet.waitsFor_eq_none r.port)
  obtain ⟨t, ht⟩ := State.serve_completes r (hs.sampled r rest) hrx
  rw [ht] at hstep
  have hinv : t.Inv := stepKeepsTheInvariant s t hs hstep
  rcases State.serve_next ht with ⟨i, h⟩ | ⟨a, rfl⟩ | rfl
  · obtain ⟨hp, he, hin⟩ := exec_latches h
    refine ⟨t, hstep, hp, he, hin, hinv, ?_⟩
    rw [exec_cfg h]
    exact hrx
  · exact ⟨_, hstep, rfl, rfl, rfl, hinv, hrx⟩
  · exact ⟨_, hstep, rfl, rfl, rfl, hinv, hrx⟩

/-- A step reads of the inputs lined up only the next request and what follows it. -/
theorem State.Inv.step_withInputs {s : State} (hs : s.Inv) {l : List Input} {r : Request} {rest : List Input}
    (hn : nextInput s.inputs = .request r rest) (hl : nextInput l = .request r rest) :
    step s = step (s.withInputs l) := by
  have hq : (s.withInputs l).quiet := hs.quiet
  rw [step_of_request hn (hs.quiet.waitsFor_eq_none r.port),
    step_of_request (s := s.withInputs l) hl (hq.waitsFor_eq_none r.port)]
  rfl

/-- Two requests taken up one after the other are served in the next two steps, as if they had been presented so. -/
theorem State.Inv.two_requests_served {s : State} (hs : s.Inv) (hrx : 1 ≤ s.cfg.rxC) {first second : Request}
    {rest : List Input} (hn : nextInput s.inputs = .request first (.request second :: rest)) :
    ∃ t1 t2, step s = .next t1 ∧ step t1 = .next t2 ∧ t1.port = first.port ∧ t1.env = first.env ∧
      t1.inputs = .request second :: rest ∧ t2.port = second.port ∧ t2.env = second.env ∧ t2.inputs = rest ∧
      step s = step (s.withInputs (.request first :: .request second :: rest)) := by
  obtain ⟨t1, h1, hp1, he1, hi1, hs1, hrx1⟩ := hs.step_serves hrx hn
  have hn1 : nextInput t1.inputs = .request second rest := by rw [hi1]; rfl
  obtain ⟨t2, h2, hp2, he2, hi2, -⟩ := hs1.step_serves hrx1 hn1
  exact ⟨t1, t2, h1, h2, hp1, he1, hi1, hp2, he2, hi2, hs.step_withInputs hn rfl⟩

/-- Settles O10: the pair is two requests in the environment's order, and each is served in one step. -/
theorem coincidingRequestsAreBothServed : Obligations.CoincidingRequestsAreBothServed := by
  intro s u pw cw pe ce producerFirst rest hs hrx hin
  cases producerFirst with
  | true =>
    exact hs.two_requests_served (first := producerRequest u pw pe) (second := consumerRequest u cw ce) hrx
      (by rw [hin]; rfl)
  | false =>
    exact hs.two_requests_served (first := consumerRequest u cw ce) (second := producerRequest u pw pe) hrx
      (by rw [hin]; rfl)

/-! ### A port that does not accept an instruction (R102) -/

theorem State.onConsumerPort_of_other {s : State} {fmt : RespFormat}
    {whole : Nat → Nat → RB → Except Fault (RB × Response)} {acts : List MicroAct} (hC : s.port ≠ .rbC)
    (hA : s.port ≠ .adpA) :
    s.onConsumerPort fmt whole acts = .next (s.withResp (.rs .wrongPort)) := by
  cases hp : s.port <;> simp_all [State.onConsumerPort]

theorem State.accessor_of_other {s : State} {q : Query} (hC : s.port ≠ .rbC) (hA : s.port ≠ .adpA) :
    s.accessor q = .next (s.withResp (.rs .wrongPort)) := State.onConsumerPort_of_other hC hA

theorem State.onApplicationPort_of_other {s : State} {fmt : RespFormat} {k : State → Out} (hA : s.port ≠ .adpA) :
    s.onApplicationPort fmt k = .next (s.withResp (.rs .wrongPort)) := by
  cases hp : s.port <;> simp_all [State.onApplicationPort]

/-- A command on a port that does not accept it is answered `WRONG_PORT`; `INSTIME` has used up its free value. -/
theorem exec_of_not_accepts {i : Instr} {s : State} (hi : i ≠ .pstep) (h : s.port.accepts i = false) :
    ∃ n, exec i s = .next ((s.useFree n).withResp (.rs .wrongPort)) := by
  have hne {p : Port} (hp : p.accepts i = true) : s.port ≠ p := by
    rintro rfl
    simp [hp] at h
  cases i with
  | get => exact ⟨0, State.onConsumerPort_of_other (hne rfl) (hne rfl)⟩
  | peek => exact ⟨0, State.onConsumerPort_of_other (whole := fun c _ => RB.peek c) (hne rfl) (hne rfl)⟩
  | instime =>
    exact ⟨1, State.onConsumerPort_of_other (s := s.useFree 1) (whole := fun c _ => RB.instime c _) (hne rfl) (hne rfl)⟩
  | clear => exact ⟨0, State.onConsumerPort_of_other (whole := fun _ _ b => .ok (b.clear, .rs .ok)) (hne rfl) (hne rfl)⟩
  | avail | occ | free | full | empty | hwm | putcnt | getcnt | ovfcnt =>
    exact ⟨0, State.accessor_of_other (hne rfl) (hne rfl)⟩
  | aavail | getmsg | send | reset | rxcnt | txcnt => exact ⟨0, State.onApplicationPort_of_other (hne rfl)⟩
  | put f =>
    refine ⟨0, ?_⟩
    simp only [exec, execPut]
    split
    · exact absurd ‹_› (hne rfl)
    all_goals rfl
  | construct =>
    refine ⟨0, ?_⟩
    simp only [exec, execConstruct]
    split
    · exact absurd ‹_› (hne rfl)
    all_goals rfl
  | init poll xtal =>
    refine ⟨0, ?_⟩
    simp only [exec, execInit]
    split
    · exact absurd ‹_› (hne rfl)
    all_goals rfl
  | pstep => exact absurd rfl hi

/-! ### What belongs to a unit (R78) -/

/-- The unit a port belongs to (R90). -/
def unitOf : Port → UnitId
  | .rbP | .rbC => .rb
  | .adpA | .adpE => .adp

theorem unitOf_consumerPort (u : UnitId) : unitOf u.consumerPort = u := by cases u <;> rfl

/-- `t` differs from `s` in nothing that belongs to the other unit than the one named; the chip calls are the adapter's. -/
def ChangesOnly : UnitId → State → State → Prop
  | .adp, s, t => t.rb = s.rb ∧ t.rbMicro = s.rbMicro
  | .rb, s, t =>
    t.st = s.st ∧ t.cfgPoll = s.cfgPoll ∧ t.cfgXtal = s.cfgXtal ∧ t.irqReg = s.irqReg ∧ t.rxCount = s.rxCount ∧
    t.txCount = s.txCount ∧ t.rx = s.rx ∧ t.tx = s.tx ∧ t.adpMicro = s.adpMicro ∧ t.calls = s.calls

theorem ChangesOnly.of_answer (u : UnitId) (n : Nat) (r : Response) (s : State) :
    ChangesOnly u s ((s.useFree n).withResp r) := by
  cases u <;> simp [ChangesOnly]

theorem ChangesOnly.of_setBuf (u : UnitId) (b : RB) (r : Response) (s : State) :
    ChangesOnly u s ((s.setBuf u b).withResp r) := by
  cases u <;> simp [ChangesOnly]

/-- A unit's own micro-step writes nothing of the other unit. -/
theorem ChangesOnly.of_effect {u : UnitId} {a : MicroAct} (ha : a.belongsTo u = true) (n : Nat) (m : Micro)
    (r : Option Response) (s : State) :
    ChangesOnly u s { ((s.useFree n).effect u a).setMicro u m with resp := r } := by
  cases u with
  | adp =>
    refine ⟨?_, by simp⟩
    have hring : ((s.useFree n).effect .adp a).ring .rb = s.rb := by
      rw [State.effect_ring, MicroAct.onRing_of_other_owner ha (by decide)]
      rfl
    exact hring
  | rb =>
    cases a with
    | build j d =>
      obtain rfl : j = .rb := by simpa [MicroAct.belongsTo] using ha
      simp [ChangesOnly, State.effect]
    | countReceived | countSent | storePoll | storeXtal | writeSt | writeIrq | callChip | readReceived | readSent =>
      cases ha
    | clearFull | advanceTail | countGet | zeroHead | zeroTail | checkNotEmpty | readFrame | answerLatched | answerPeek
    | answerTime | sample | answer => simp [ChangesOnly, State.effect, State.updBuf]

/-- The first micro-step of an operation belongs to the unit whose consumer port accepts it. -/
theorem State.actsOf_cons_belongs {i : Instr} {u : UnitId} (s : State) (hi : u.consumerPort.accepts i = true) :
    ∃ a rest, s.actsOf i = a :: rest ∧ a.belongsTo u = true := by
  cases i with
  | put | pstep => cases u <;> cases hi
  | get | peek | instime | clear | avail | occ | free | full | empty | hwm | putcnt | getcnt | ovfcnt =>
    cases u <;> exact ⟨_, _, rfl, rfl⟩
  | construct =>
    cases u <;> cases hi
    refine ⟨.build .rb .dropSlots, (s.actsOf .construct).tail, ?_, rfl⟩
    cases h : s.env.allocOk <;> simp [State.actsOf, constructActs, buildActs, h]
  | init | aavail | getmsg | send | reset | rxcnt | txcnt =>
    cases u <;> cases hi
    exact ⟨_, _, rfl, rfl⟩

/-- Beginning an operation in micro-steps changes its unit only (R280). -/
theorem ChangesOnly.of_startMicro {i : Instr} {u : UnitId} {n : Nat} {s t : State}
    (hi : u.consumerPort.accepts i = true) (h : (s.useFree n).startMicro u (s.actsOf i) = .next t) :
    ChangesOnly u s t := by
  obtain ⟨a, rest, hacts, ha⟩ := s.actsOf_cons_belongs hi
  rw [hacts] at h
  obtain ⟨m, r, rfl⟩ := State.startMicro_effect h
  exact .of_effect ha n m r s

/-- A production step changes the adapter only (R200). -/
theorem ChangesOnly.of_productionStep {s t : State} (h : s.productionStep = .next t) : ChangesOnly .adp s t := by
  obtain ⟨b, l, rfl⟩ := State.productionStep_frame h
  exact ⟨rfl, rfl⟩

/-- A consumer operation changes the unit of its port only (R102). -/
theorem ChangesOnly.of_onConsumerPort {i : Instr} {fmt : RespFormat}
    {whole : Nat → Nat → RB → Except Fault (RB × Response)} {s t : State}
    (hi : ∀ u : UnitId, u.consumerPort.accepts i = true) (h : s.onConsumerPort fmt whole (s.actsOf i) = .next t) :
    ChangesOnly (unitOf s.port) s t := by
  rcases State.onConsumerPort_next h with ⟨-, rfl⟩ | ⟨-, -, rfl⟩ | ⟨u, hp, -, h⟩
  · exact .of_answer _ 0 _ s
  · exact .of_answer _ 0 _ s
  rw [hp, unitOf_consumerPort]
  rcases State.onBuffer_next h with ⟨-, rfl⟩ | ⟨-, -, b, r, -, rfl⟩ | ⟨-, -, h⟩
  · exact .of_answer _ 0 _ s
  · exact .of_setBuf u b r s
  · exact .of_startMicro (n := 0) (hi u) h

/-! ### What an instruction leaves of the other unit (R78) -/

/-- A command that only ports of `u` accept, and that changes `u` only, changes the unit of its port only: on another port it
is answered `WRONG_PORT` (R102). -/
theorem ChangesOnly.of_accepting_unit {i : Instr} {u : UnitId} {s t : State} (h : exec i s = .next t) (hi : i ≠ .pstep)
    (hother : ∀ p : Port, p.accepts i = true → unitOf p = u) (ht : ChangesOnly u s t) :
    ChangesOnly (unitOf s.port) s t := by
  cases hacc : s.port.accepts i
  · obtain ⟨n, hn⟩ := exec_of_not_accepts hi hacc
    cases hn.symm.trans h
    exact .of_answer _ n _ s
  · rwa [hother _ hacc]

/-- An instruction changes the unit of its port only; a discarded or served edge is one of the adapter. -/
theorem exec_changesOnly {i : Instr} {s t : State} (h : exec i s = .next t) (hi : i = .pstep → unitOf s.port = .adp) :
    ChangesOnly (unitOf s.port) s t := by
  cases exec_executed h with
  | answered n r => exact .of_answer _ n r s
  | get => exact .of_onConsumerPort (i := .get) (by rintro ⟨⟩ <;> rfl) h
  | clear =>
    exact .of_onConsumerPort (i := .clear) (whole := fun _ _ b => .ok (b.clear, .rs .ok)) (by rintro ⟨⟩ <;> rfl) h
  | put | construct =>
    exact .of_accepting_unit (u := .rb) h (by simp) (by rintro ⟨⟩ ⟨⟩; rfl) (by simp [ChangesOnly])
  | init | reset | getmsg | refusedFrame | sent =>
    exact .of_accepting_unit (u := .adp) h (by simp) (by rintro ⟨⟩ ⟨⟩; rfl)
      (by simp [ChangesOnly, State.initialised])
  | polled r hprod =>
    have hadp := ChangesOnly.of_productionStep hprod
    exact .of_accepting_unit (u := .adp) h (by simp) (by rintro ⟨⟩ ⟨⟩; rfl) hadp
  | discarded =>
    rw [hi rfl]
    exact ⟨rfl, rfl⟩
  | edge hprod =>
    rw [hi rfl]
    exact .of_productionStep hprod
  | split u n ha hp hi' hst hu hc hsplit =>
    rw [hp, unitOf_consumerPort]
    exact .of_startMicro hi' hsplit

/-- Settles O43: an instruction changes the unit of its port only. -/
theorem unitsAreIndependent : Obligations.UnitsAreIndependent := by
  intro i s t h
  have hchange := exec_changesOnly h
  refine ⟨?_, ?_⟩
  · rintro (hp | hp) <;> rw [hp] at hchange <;> exact hchange fun _ => rfl
  · rintro hi (hp | hp) <;> rw [hp] at hchange <;> exact hchange fun h => absurd h hi

end Sys2Proof.Machine

/-! ## Scope: encoding — packed frames, command words, reserved opcodes, response words, and one response per command -/

namespace Sys2Proof

/-! ### The packed frame and entry (R104) -/

/-- Each field of a frame stands at the bits of the packed frame it is unpacked from. -/
@[simp] theorem Frame.unpack_pack (f : Frame) : Frame.unpack f.pack = f := by
  simp (disch := omega) [Frame.unpack, Frame.pack, BitVec.extractLsb'_append_eq_of_le, BitVec.extractLsb'_append_eq_right,
    -Nat.reduceAdd]

/-- The fields of a packed frame lie next to each other and fill the word. -/
@[simp] theorem Frame.pack_unpack (w : BitVec 100) : (Frame.unpack w).pack = w := by
  simp (disch := omega) only [Frame.pack, Frame.unpack, BitVec.extractLsb'_append_extractLsb'_eq_extractLsb',
    BitVec.extractLsb'_eq_self, -Nat.reduceAdd]

section PackedFields
variable (f : Frame)

@[simp] theorem Frame.pack_id : f.pack.extractLsb' 0 32 = f.id := congrArg Frame.id f.unpack_pack
@[simp] theorem Frame.pack_len : f.pack.extractLsb' 32 4 = f.len := congrArg Frame.len f.unpack_pack
@[simp] theorem Frame.pack_d0 : f.pack.extractLsb' 36 8 = f.data.d0 := congrArg (·.data.d0) f.unpack_pack
@[simp] theorem Frame.pack_d1 : f.pack.extractLsb' 44 8 = f.data.d1 := congrArg (·.data.d1) f.unpack_pack
@[simp] theorem Frame.pack_d2 : f.pack.extractLsb' 52 8 = f.data.d2 := congrArg (·.data.d2) f.unpack_pack
@[simp] theorem Frame.pack_d3 : f.pack.extractLsb' 60 8 = f.data.d3 := congrArg (·.data.d3) f.unpack_pack
@[simp] theorem Frame.pack_d4 : f.pack.extractLsb' 68 8 = f.data.d4 := congrArg (·.data.d4) f.unpack_pack
@[simp] theorem Frame.pack_d5 : f.pack.extractLsb' 76 8 = f.data.d5 := congrArg (·.data.d5) f.unpack_pack
@[simp] theorem Frame.pack_d6 : f.pack.extractLsb' 84 8 = f.data.d6 := congrArg (·.data.d6) f.unpack_pack
@[simp] theorem Frame.pack_d7 : f.pack.extractLsb' 92 8 = f.data.d7 := congrArg (·.data.d7) f.unpack_pack

end PackedFields

@[simp] theorem Entry.pack_frame (e : Entry) : e.pack.extractLsb' 0 100 = e.frame.pack :=
  BitVec.extractLsb'_append_eq_right

@[simp] theorem Entry.pack_ts (e : Entry) : e.pack.extractLsb' 100 32 = e.ts := BitVec.extractLsb'_append_eq_left

theorem Entry.unpack_pack (e : Entry) : Entry.unpack e.pack = e := by simp [Entry.unpack]

theorem Entry.pack_unpack (w : BitVec 132) : (Entry.unpack w).pack = w := by
  rw [Entry.pack, Entry.unpack, Frame.pack_unpack]
  exact BitVec.extractLsb'_append_extractLsb'

/-- Settles O5: the fields of a packed frame and entry are what unpacking reads, and packing and unpacking are inverse. -/
theorem packedFrameAndEntryLayout : Obligations.PackedFrameAndEntryLayout :=
  ⟨fun f => ⟨f.pack_id, f.pack_len, f.pack_d0, f.pack_d1, f.pack_d2, f.pack_d3, f.pack_d4, f.pack_d5, f.pack_d6,
      f.pack_d7⟩,
    fun e => ⟨e.pack_frame, e.pack_ts⟩, Frame.unpack_pack, Frame.pack_unpack, Entry.unpack_pack, Entry.pack_unpack,
    by decide⟩

/-! ### The operand fields of a command word (R91 to R95) -/

/-- The operands of an operation stand in the operand fields of a word (R93 to R95). -/
def Instr.OperandsIn (w : CmdWord) : Instr → Prop
  | .put f => f = Frame.unpack (w.extractLsb' 8 100)
  | .init poll xtal => poll = w.getLsbD 8 ∧ xtal = w.extractLsb' 9 2
  | .send f rtr ext prio =>
    f = Frame.unpack (w.extractLsb' 8 100) ∧ rtr = w.getLsbD 108 ∧ ext = w.getLsbD 109 ∧ prio = w.extractLsb' 110 8
  | _ => True

/-- A command word decodes to the operation whose opcode and operands stand in it (R91). -/
theorem decodeCmd_eq_some_iff {w : CmdWord} {i : Instr} :
    decodeCmd w = some i ↔ i ≠ .pstep ∧ w.extractLsb' 0 8 = i.opcode ∧ i.OperandsIn w := by
  constructor
  · unfold decodeCmd
    split <;> rintro ⟨⟩
    all_goals exact ⟨by simp, ‹_›, by simp [Instr.OperandsIn]⟩
  · rintro ⟨hi, ho, ha⟩
    cases i with
    | pstep => exact absurd rfl hi
    | put f =>
      obtain rfl : f = _ := ha
      simp [decodeCmd, ho, Instr.opcode]
    | init poll xtal =>
      obtain ⟨rfl, rfl⟩ := ha
      simp [decodeCmd, ho, Instr.opcode]
    | send f rtr ext prio =>
      obtain ⟨rfl, rfl, rfl, rfl⟩ := ha
      simp [decodeCmd, ho, Instr.opcode]
    | _ => simp [decodeCmd, ho, Instr.opcode]

/-- The opcode stands in the low bits of an operation's word (R91), one law per operation. -/
theorem encode_opcode {i : Instr} (hi : i ≠ .pstep) : (encode i).extractLsb' 0 8 = i.opcode := by
  have h : Laws.OpcodeField.Statement i := by
    cases i
    exacts [Laws.OpcodeField.put _, Laws.OpcodeField.get, Laws.OpcodeField.peek, Laws.OpcodeField.instime,
      Laws.OpcodeField.clear, Laws.OpcodeField.construct, Laws.OpcodeField.avail, Laws.OpcodeField.occ,
      Laws.OpcodeField.free, Laws.OpcodeField.full, Laws.OpcodeField.empty, Laws.OpcodeField.hwm,
      Laws.OpcodeField.putcnt, Laws.OpcodeField.getcnt, Laws.OpcodeField.ovfcnt, Laws.OpcodeField.init _ _,
      Laws.OpcodeField.aavail, Laws.OpcodeField.getmsg, Laws.OpcodeField.send _ _ _ _, Laws.OpcodeField.reset,
      Laws.OpcodeField.rxcnt, Laws.OpcodeField.txcnt, Laws.OpcodeField.pstep]
  exact h.1 hi

/-- A field of the frame of a `PUT` stands 8 bits above its place in the packed frame (R93, R104). -/
theorem encode_put_field (f : Frame) (start len : Nat) (h : start + len ≤ 100) :
    (encode (.put f)).extractLsb' (8 + start) len = f.pack.extractLsb' start len := by
  rw [encode, BitVec.extractLsb'_setWidth_of_le (by omega), BitVec.extractLsb'_append_eq_of_le (by omega),
    Nat.add_sub_cancel_left]

/-- The packed frame of a `PUT` stands in bits `[107:8]` (R93). -/
theorem encode_put_frame (f : Frame) : (encode (.put f)).extractLsb' 8 100 = f.pack :=
  (encode_put_field f 0 100 (by decide)).trans BitVec.extractLsb'_eq_self

theorem encode_init_poll (poll : Bool) (xtal : Xtal) : (encode (.init poll xtal)).getLsbD 8 = poll := by
  revert poll xtal
  decide

theorem encode_init_xtal (poll : Bool) (xtal : Xtal) : (encode (.init poll xtal)).extractLsb' 9 2 = xtal := by
  revert poll xtal
  decide

section Send
variable (f : Frame) (rtr ext : Bool) (prio : Prio)

theorem encode_send_frame : (encode (.send f rtr ext prio)).extractLsb' 8 100 = f.pack := by
  simp (disch := omega) [encode, BitVec.extractLsb'_append_eq_of_le, BitVec.extractLsb'_append_eq_right, -Nat.reduceAdd]

theorem encode_send_rtr : (encode (.send f rtr ext prio)).getLsbD 108 = rtr := by
  simp only [encode, BitVec.getLsbD_append, -Nat.reduceAdd]
  simp

theorem encode_send_ext : (encode (.send f rtr ext prio)).getLsbD 109 = ext := by
  simp only [encode, BitVec.getLsbD_append, -Nat.reduceAdd]
  simp

theorem encode_send_prio : (encode (.send f rtr ext prio)).extractLsb' 110 8 = prio := by
  simp (disch := omega) [encode, BitVec.extractLsb'_append_eq_of_le, -Nat.reduceAdd]

end Send

/-- The operands of an operation stand in the operand fields of its word. -/
theorem operandsIn_encode (i : Instr) : i.OperandsIn (encode i) := by
  cases i with
  | put f => rw [Instr.OperandsIn, encode_put_frame, Frame.unpack_pack]
  | init poll xtal => exact ⟨(encode_init_poll poll xtal).symm, (encode_init_xtal poll xtal).symm⟩
  | send f rtr ext prio =>
    refine ⟨?_, (encode_send_rtr ..).symm, (encode_send_ext ..).symm, (encode_send_prio ..).symm⟩
    rw [encode_send_frame, Frame.unpack_pack]
  | _ => trivial

theorem decodeCmd_encode {i : Instr} (hi : i ≠ .pstep) : decodeCmd (encode i) = some i :=
  decodeCmd_eq_some_iff.2 ⟨hi, encode_opcode hi, operandsIn_encode i⟩

/-! ### Decoding on a port (R91, R96) -/

/-- A command port decodes the command formats. -/
theorem decode_of_command {p : Port} (hp : p ≠ .adpE) (w : CmdWord) :
    decode p w = (decodeCmd w).elim .reserved .instr := by
  cases p with
  | adpE => exact absurd rfl hp
  | rbP | rbC | adpA => cases h : decodeCmd w <;> simp [decode, h]

/-- Port `E` accepts the event only (R102). -/
theorem Port.eq_pstep_of_accepts {i : Instr} (h : Port.adpE.accepts i = true) : i = .pstep := by
  cases i with
  | pstep => rfl
  | _ => cases h

/-- Only the consumer operations are accepted on a second port (R102). -/
theorem Port.eq_homePort {p : Port} {i : Instr} (h : p.accepts i = true) (hi : i ∉ Machine.consumerInstrs) :
    p = i.homePort := by
  cases i with
  | get | peek | instime | clear | avail | occ | free | full | empty | hwm | putcnt | getcnt | ovfcnt =>
    exact absurd (by decide) hi
  | _ =>
    cases p <;> cases h
    rfl

/-- Settles O1: on a command port by the fields of the word, on port `E` by its one bit. -/
theorem decodeOfEncodeIsTheInstruction : Obligations.DecodeOfEncodeIsTheInstruction := by
  intro i p _ hacc
  by_cases hp : p = .adpE
  · subst hp
    rw [Port.eq_pstep_of_accepts hacc]
    decide
  · have hi : i ≠ .pstep := by
      rintro rfl
      exact hp (Port.eq_homePort hacc (by simp [Machine.consumerInstrs]))
    rw [decode_of_command hp, decodeCmd_encode hi]
    rfl

/-! ### The word of what a word decodes to -/

theorem ofBool_getLsbD {n : Nat} (w : BitVec n) (k : Nat) : BitVec.ofBool (w.getLsbD k) = w.extractLsb' k 1 := by
  rw [BitVec.getLsbD_eq_extractLsb']
  generalize w.extractLsb' k 1 = b
  revert b
  decide

/-- The operation a word decodes to has as its word the bits of its format: the fields lie next to each other and fill it
(R92 to R95). -/
theorem encode_of_decodeCmd {w : CmdWord} {i : Instr} (h : decodeCmd w = some i) :
    encode i = (w.extractLsb' 0 i.width).setWidth 118 := by
  obtain ⟨hi, ho, ha⟩ := decodeCmd_eq_some_iff.1 h
  cases i with
  | pstep => exact absurd rfl hi
  | put f =>
    have ho' : 0x01#8 = w.extractLsb' 0 8 := ho.symm
    obtain rfl : f = _ := ha
    simp (disch := omega) only [encode, Frame.pack_unpack, ho', BitVec.extractLsb'_append_extractLsb'_eq_extractLsb',
      -Nat.reduceAdd]
    rfl
  | init poll xtal =>
    have ho' : 0x80#8 = w.extractLsb' 0 8 := ho.symm
    obtain ⟨rfl, rfl⟩ := ha
    simp (disch := omega) only [encode, ofBool_getLsbD, ho', BitVec.extractLsb'_append_extractLsb'_eq_extractLsb',
      -Nat.reduceAdd]
    rfl
  | send f rtr ext prio =>
    have ho' : 0x83#8 = w.extractLsb' 0 8 := ho.symm
    obtain ⟨rfl, rfl, rfl, rfl⟩ := ha
    simp (disch := omega) only [encode, Frame.pack_unpack, ofBool_getLsbD, ho',
      BitVec.extractLsb'_append_extractLsb'_eq_extractLsb', BitVec.extractLsb'_eq_self, -Nat.reduceAdd]
    simp [Instr.width]
  | _ => exact congrArg (BitVec.setWidth 118) ho.symm

/-- Settles O2: the word of the operation is the word's format, cut out. -/
theorem encodeOfDecodeIsTheWord : Obligations.EncodeOfDecodeIsTheWord := by
  intro w i h
  have hlt : w.toNat % 2 ^ i.width < 2 ^ 118 := (Nat.mod_le _ _).trans_lt w.isLt
  rw [encode_of_decodeCmd h, BitVec.toNat_setWidth, BitVec.extractLsb'_toNat, Nat.shiftRight_zero, Nat.mod_eq_of_lt hlt]

/-! ### Bits above a format (R91) -/

theorem extractLsb'_eq_of_mod_eq {v w : CmdWord} {n start len : Nat} (h : v.toNat % 2 ^ n = w.toNat % 2 ^ n)
    (hle : start + len ≤ n) : v.extractLsb' start len = w.extractLsb' start len := by
  have hn : v.setWidth n = w.setWidth n := BitVec.eq_of_toNat_eq (by simpa using h)
  rw [← BitVec.extractLsb'_setWidth_of_le hle, hn, BitVec.extractLsb'_setWidth_of_le hle]

theorem getLsbD_eq_of_mod_eq {v w : CmdWord} {n k : Nat} (h : v.toNat % 2 ^ n = w.toNat % 2 ^ n) (hk : k < n) :
    v.getLsbD k = w.getLsbD k := by
  rw [BitVec.getLsbD_eq_extractLsb', BitVec.getLsbD_eq_extractLsb', extractLsb'_eq_of_mod_eq h hk]

/-- A command's format holds at least the opcode. -/
theorem Instr.eight_le_width {i : Instr} (hi : i ≠ .pstep) : 8 ≤ i.width := by
  cases i with
  | pstep => exact absurd rfl hi
  | _ => simp [Instr.width]

/-- The operand fields of an operation lie inside its format. -/
theorem Instr.OperandsIn.of_mod_eq {v w : CmdWord} {i : Instr} (h : v.toNat % 2 ^ i.width = w.toNat % 2 ^ i.width)
    (ha : i.OperandsIn w) : i.OperandsIn v := by
  cases i with
  | put f => rwa [Instr.OperandsIn, extractLsb'_eq_of_mod_eq h (by simp [Instr.width])]
  | init poll xtal =>
    rwa [Instr.OperandsIn, getLsbD_eq_of_mod_eq h (by simp [Instr.width]),
      extractLsb'_eq_of_mod_eq h (by simp [Instr.width])]
  | send f rtr ext prio =>
    have hlow {k : Nat} (hk : k < 118) : v.getLsbD k = w.getLsbD k := getLsbD_eq_of_mod_eq h hk
    rwa [Instr.OperandsIn, extractLsb'_eq_of_mod_eq h (by simp [Instr.width]), hlow (by decide), hlow (by decide),
      extractLsb'_eq_of_mod_eq h (by simp [Instr.width])]
  | _ => trivial

/-- Settles O3: the opcode and the operand fields lie inside the format. -/
theorem bitsAboveFormatAreIgnored : Obligations.BitsAboveFormatAreIgnored := by
  intro v w i h hmod
  obtain ⟨hi, ho, ha⟩ := decodeCmd_eq_some_iff.1 h
  refine decodeCmd_eq_some_iff.2 ⟨hi, ?_, ha.of_mod_eq hmod⟩
  rw [extractLsb'_eq_of_mod_eq hmod (by simpa using Instr.eight_le_width hi), ho]

/-! ### The operand fields of formats F, I and S -/

/-- The word of a command has no bits above its format. -/
theorem encode_lt {i : Instr} (hi : i ≠ .pstep) : (encode i).toNat < 2 ^ i.width := by
  rw [encodeOfDecodeIsTheWord _ _ (decodeCmd_encode hi)]
  exact Nat.mod_lt _ (Nat.two_pow_pos _)

/-- Settles O6, field by field. -/
theorem operandFieldsOfFormatsFIS : Obligations.OperandFieldsOfFormatsFIS := by
  refine ⟨fun f => ?_, fun poll xtal => ?_, fun f rtr ext prio => ?_⟩
  · have field (start len : Nat) (h : start + len ≤ 100) := encode_put_field f start len h
    exact ⟨encode_opcode (by simp), (field 0 32 (by decide)).trans f.pack_id, (field 32 4 (by decide)).trans f.pack_len,
      (field 36 8 (by decide)).trans f.pack_d0, (field 44 8 (by decide)).trans f.pack_d1,
      (field 52 8 (by decide)).trans f.pack_d2, (field 60 8 (by decide)).trans f.pack_d3,
      (field 68 8 (by decide)).trans f.pack_d4, (field 76 8 (by decide)).trans f.pack_d5,
      (field 84 8 (by decide)).trans f.pack_d6, (field 92 8 (by decide)).trans f.pack_d7, encode_lt (by simp)⟩
  · exact ⟨encode_opcode (by simp), encode_init_poll poll xtal, encode_init_xtal poll xtal, encode_lt (by simp)⟩
  · exact ⟨encode_opcode (by simp), encode_send_frame f rtr ext prio, encode_send_rtr f rtr ext prio,
      encode_send_ext f rtr ext prio, encode_send_prio f rtr ext prio⟩

/-- Settles O7, by running the decoder and the response words. -/
theorem exampleWordsOfTheSpec : Obligations.ExampleWordsOfTheSpec := by
  unfold Obligations.ExampleWordsOfTheSpec
  decide

/-! ### Reserved opcodes (R108) -/

/-- The opcodes without an operation, in the ranges of R108. -/
theorem decodeCmd_eq_none_iff (w : CmdWord) :
    decodeCmd w = none ↔ w.toNat % 256 = 0x00 ∨ (0x06 ≤ w.toNat % 256 ∧ w.toNat % 256 ≤ 0x0E) ∨
      (0x19 ≤ w.toNat % 256 ∧ w.toNat % 256 ≤ 0x7F) ∨ 0x87 ≤ w.toNat % 256 := by
  have hop : w.toNat % 256 = (w.extractLsb' 0 8).toNat := by
    rw [BitVec.extractLsb'_toNat]
    rfl
  rw [hop, decodeCmd]
  generalize w.extractLsb' 0 8 = op
  split
  case h_23 =>
    refine iff_of_true rfl ?_
    simp only [← BitVec.toNat_inj, BitVec.toNat_ofNat, imp_false] at *
    omega
  all_goals simp

end Sys2Proof

namespace Sys2Proof.Machine

/-- Settles O4: the ranges by the arms of the decoder, the step by the lemma of a step that serves a request. -/
theorem reservedOpcodeIsAnsweredAndChangesNothing : Obligations.ReservedOpcodeIsAnsweredAndChangesNothing := by
  refine fun w => ⟨decodeCmd_eq_none_iff w, fun s p e rest hnone hp hin hw => ?_⟩
  have hd : decode p w = .reserved := by
    rw [decode_of_command hp, hnone]
    rfl
  rw [step_of_request (by rw [hin]; rfl) hw]
  simp only [State.serve, hd]
  rfl

/-! ### Response words (R110, R220) -/

/-- Settles O8: below the payload stands a status code of four bits, and the payload fits its field. -/
theorem responseWordLayout : Obligations.ResponseWordLayout := by
  refine ⟨rfl, rfl, rfl, rfl, rfl, rfl, rfl, rfl, fun vw r => ?_⟩
  have hcode : r.status.code.toNat < 2 ^ 4 := r.status.code.isLt
  cases r <;> simp only [Response.word, Response.status, Response.format, RespFormat.width] at hcode ⊢
  case rs st => exact ⟨Nat.mod_eq_of_lt hcode, hcode, trivial⟩
  case rl st b =>
    have hb : b.toNat < 2 := b.toNat_lt
    omega
  case rv st v =>
    have hv : wrap vw v < 2 ^ vw := wrap_lt vw v
    change _ ∧ _ ∧ _ = wrap vw v
    rw [Nat.pow_add]
    omega
  case rf st valid f =>
    have hvalid : valid.toNat < 2 := valid.toNat_lt
    have hf : f.pack.toNat < 2 ^ 100 := f.pack.isLt
    omega
  case rt st valid ts =>
    have hvalid : valid.toNat < 2 := valid.toNat_lt
    have hts : ts.toNat < 2 ^ 32 := ts.isLt
    omega

/-! ### One response per command (R110) -/

@[simp] theorem RespFormat.format_failed (fmt : RespFormat) (st : Status) : (fmt.failed st).format = fmt := by
  cases fmt <;> rfl

theorem Query.format_answer (q : Query) (c : Nat) (b : RB) : (q.answer c b).format = q.format := by cases q <;> rfl

/-- Where the operation has a next state it gives a response of the format. -/
def AnswersIn (fmt : Option RespFormat) (o : Out) : Prop :=
  ∀ t, o = .next t → ∃ r, t.resp = some r ∧ fmt = some r.format

theorem AnswersIn.answer {fmt : RespFormat} {r : Response} (hr : r.format = fmt) (s : State) :
    AnswersIn (some fmt) (s.answer r) := by
  rintro _ ⟨⟩
  exact ⟨r, rfl, congrArg some hr.symm⟩

theorem AnswersIn.finishBuf {fmt : RespFormat} {u : UnitId} {o : Except Fault (RB × Response)} {s : State}
    (h : ∀ b r, o = .ok (b, r) → r.format = fmt) : AnswersIn (some fmt) (s.finishBuf u o) := by
  intro t ht
  obtain ⟨b, r, hr, rfl⟩ := State.finishBuf_next ht
  exact ⟨r, rfl, congrArg some (h b r hr).symm⟩

theorem AnswersIn.onConsumerPort {fmt : RespFormat} {whole : Nat → Nat → RB → Except Fault (RB × Response)}
    {acts : List MicroAct} {s : State} (ha : s.cfg.atomic = true) (hP : s.port ≠ .rbP) (hE : s.port ≠ .adpE)
    (h : ∀ c w b d r, whole c w b = .ok (d, r) → r.format = fmt) :
    AnswersIn (some fmt) (s.onConsumerPort fmt whole acts) := by
  intro t ht
  rcases State.onConsumerPort_next ht with ⟨hp, -⟩ | ⟨-, -, rfl⟩ | ⟨u, -, -, ht⟩
  · exact absurd hp (not_or_intro hP hE)
  · exact ⟨_, rfl, by rw [RespFormat.format_failed]⟩
  rcases State.onBuffer_next ht with ⟨-, rfl⟩ | ⟨-, -, b, r, hr, rfl⟩ | ⟨-, hna, -⟩
  · exact ⟨_, rfl, by rw [RespFormat.format_failed]⟩
  · exact ⟨r, rfl, congrArg some (h _ _ _ _ _ hr).symm⟩
  · simp [ha] at hna

theorem AnswersIn.accessor {s : State} (ha : s.cfg.atomic = true) (hP : s.port ≠ .rbP) (hE : s.port ≠ .adpE)
    (q : Query) : AnswersIn (some q.format) (s.accessor q) := by
  refine .onConsumerPort ha hP hE fun c w b d r h => ?_
  cases h
  exact q.format_answer c b

theorem AnswersIn.onApplicationPort {fmt : RespFormat} {k : State → Out} {s : State} (hp : s.port = .adpA)
    (h : AnswersIn (some fmt) (k s)) : AnswersIn (some fmt) (s.onApplicationPort fmt k) := by
  intro t ht
  rcases State.onApplicationPort_next ht with ⟨hp', -⟩ | ⟨-, -, rfl⟩ | ⟨-, -, ht⟩
  · exact absurd hp hp'
  · exact ⟨_, rfl, by rw [RespFormat.format_failed]⟩
  · exact h t ht

theorem AnswersIn.wholeOrSplit {fmt : RespFormat} {u : UnitId} {whole : State → Out} {acts : List MicroAct} {s : State}
    (ha : s.cfg.atomic = true) (h : AnswersIn (some fmt) (whole s)) :
    AnswersIn (some fmt) (s.wholeOrSplit u whole acts) := by
  rwa [State.wholeOrSplit_of_atomic ha]

theorem AnswersIn.initBody (s : State) : AnswersIn (some .rs) s.initBody := by
  intro t ht
  rcases State.initBody_next ht with ⟨-, rfl⟩ | ⟨-, rfl⟩ <;> exact ⟨_, rfl, rfl⟩

theorem AnswersIn.initialise {poll : Bool} {xtal : Xtal} {whole : State → Out} {before : List MicroAct} {s : State}
    (ha : s.cfg.atomic = true) (h : AnswersIn (some .rs) (whole s)) :
    AnswersIn (some .rs) (s.initialise poll xtal whole before) := by
  intro t ht
  obtain ⟨-, ⟨-, ht⟩ | ⟨hna, -⟩⟩ := State.initialise_next ht
  · exact h t ht
  · simp [ha] at hna

theorem AnswersIn.adapterAvailable {s : State} (ha : s.cfg.atomic = true) : AnswersIn (some .rl) s.adapterAvailable := by
  unfold State.adapterAvailable
  split
  · cases s.productionStep with
    | next t => exact .answer rfl t
    | fault | refused => rintro _ ⟨⟩
  · exact .wholeOrSplit ha (.answer rfl s)

theorem RB.get_format {c w : Nat} {b d : RB} {r : Response} (h : b.get c w = .ok (d, r)) : r.format = .rf := by
  rcases RB.get_ok h with ⟨-, -, rfl⟩ | ⟨-, e, -, -, rfl⟩ <;> rfl

theorem RB.peek_format {c : Nat} {b d : RB} {r : Response} (h : b.peek c = .ok (d, r)) : r.format = .rf := by
  obtain ⟨-, ⟨-, rfl⟩ | ⟨-, e, -, rfl⟩⟩ := RB.peek_ok h <;> rfl

theorem RB.instime_format {c : Nat} {x : Timestamp} {b d : RB} {r : Response} (h : b.instime c x = .ok (d, r)) :
    r.format = .rt := by
  obtain ⟨-, ⟨-, rfl⟩ | ⟨-, e, -, rfl⟩⟩ := RB.instime_ok h <;> rfl

theorem AnswersIn.takeMessage {s : State} (ha : s.cfg.atomic = true) : AnswersIn (some .rf) s.takeMessage := by
  unfold State.takeMessage
  split
  · refine .wholeOrSplit ha ?_
    unfold State.getAndCount
    split
    · rintro _ ⟨⟩
    · exact .answer (RB.get_format ‹_›) _
  · exact .answer rfl s

theorem AnswersIn.sendFrame (f : Frame) (rtr ext : Bool) (prio : Prio) (s : State) :
    AnswersIn (some .rs) (s.sendFrame f rtr ext prio) := by
  unfold State.sendFrame
  dsimp only
  split <;> exact .answer rfl _

theorem AnswersIn.put {s : State} (hp : s.port = .rbP) (f : Frame) : AnswersIn (some .rs) (execPut f s) := by
  simp only [execPut, hp]
  refine .finishBuf fun b r h => ?_
  rcases RB.put_ok h with ⟨-, -, rfl⟩ | ⟨-, -, -, rfl⟩ <;> rfl

theorem AnswersIn.construct {s : State} (ha : s.cfg.atomic = true) (hp : s.port = .rbC) :
    AnswersIn (some .rs) (execConstruct s) := by
  simp only [execConstruct, hp]
  exact .wholeOrSplit ha (.answer rfl _)

theorem AnswersIn.init {s : State} (ha : s.cfg.atomic = true) (hp : s.port = .adpA) (poll : Bool) (xtal : Xtal) :
    AnswersIn (some .rs) (execInit poll xtal s) := by
  simp only [execInit, hp]
  exact .initialise ha (.initBody _)

/-- With atomic operations a command answers in the format its opcode fixes, on every port that accepts it. -/
theorem exec_answersIn {i : Instr} {s : State} (ha : s.cfg.atomic = true) (hi : i ≠ .pstep)
    (hacc : s.port.accepts i = true) : AnswersIn (responseFormat i) (exec i s) := by
  have hne {p : Port} (hp : p.accepts i = false) : s.port ≠ p := by
    rintro rfl
    simp [hp] at hacc
  have hhome (hc : i ∉ consumerInstrs) : s.port = i.homePort := Port.eq_homePort hacc hc
  cases i with
  | put f => exact .put (hhome (by simp [consumerInstrs])) f
  | get => exact .onConsumerPort ha (hne rfl) (hne rfl) fun _ _ _ _ _ h => RB.get_format h
  | peek =>
    exact .onConsumerPort (whole := fun c _ => RB.peek c) ha (hne rfl) (hne rfl) fun _ _ _ _ _ h => RB.peek_format h
  | instime =>
    exact .onConsumerPort (s := s.useFree 1) (whole := fun c _ => RB.instime c _) ha (hne rfl) (hne rfl)
      fun _ _ _ _ _ h => RB.instime_format h
  | clear =>
    refine .onConsumerPort (whole := fun _ _ b => .ok (b.clear, .rs .ok)) ha (hne rfl) (hne rfl) ?_
    rintro _ _ _ _ _ ⟨⟩
    rfl
  | construct => exact .construct ha (hhome (by simp [consumerInstrs]))
  | avail | occ | free | full | empty | hwm | putcnt | getcnt | ovfcnt => exact .accessor ha (hne rfl) (hne rfl) _
  | init poll xtal => exact .init ha (hhome (by simp [consumerInstrs])) poll xtal
  | aavail => exact .onApplicationPort (hhome (by simp [consumerInstrs])) (.adapterAvailable ha)
  | getmsg => exact .onApplicationPort (hhome (by simp [consumerInstrs])) (.takeMessage ha)
  | send f rtr ext prio =>
    exact .onApplicationPort (hhome (by simp [consumerInstrs])) (.wholeOrSplit ha (.sendFrame f rtr ext prio s))
  | reset => exact .onApplicationPort (hhome (by simp [consumerInstrs])) (.initialise ha (.initBody _))
  | rxcnt | txcnt => exact .onApplicationPort (hhome (by simp [consumerInstrs])) (.wholeOrSplit ha (.answer rfl s))
  | pstep => exact absurd rfl hi

/-- An edge gives no response (R110, R228). -/
theorem execPstep_resp {s t : State} (h : execPstep s = .next t) : t.resp = s.resp := by
  rcases State.takeEdge_next h with ⟨-, rfl⟩ | ⟨-, -, h⟩
  · rfl
  · obtain ⟨b, l, rfl⟩ := State.productionStep_frame h
    rfl

/-- Settles O44: where the port accepts the command by `exec_answersIn`, elsewhere by the answer `WRONG_PORT`. -/
theorem oneResponsePerCommand : Obligations.OneResponsePerCommand := by
  intro i s t ha h
  refine ⟨?_, fun hi => ?_⟩
  · rintro rfl
    exact execPstep_resp h
  cases hacc : s.port.accepts i
  · obtain ⟨n, hn⟩ := exec_of_not_accepts hi hacc
    cases hn.symm.trans h
    exact ⟨_, rfl, by simp, fun _ => rfl⟩
  · obtain ⟨r, hr, hfmt⟩ := exec_answersIn ha hi hacc t h
    exact ⟨r, hr, fun _ => hfmt, by simp⟩

/-- Settles O31, by the answer of a port that does not accept the command. -/
theorem wrongPortIsAnsweredAndChangesNothing : Obligations.WrongPortIsAnsweredAndChangesNothing := by
  intro s i hi h
  obtain ⟨n, hn⟩ := exec_of_not_accepts hi h
  exact ⟨s.free + n, hn⟩

end Sys2Proof.Machine

/-! ## Scope: the ring buffer's data operations, and the gate of an unusable buffer -/

namespace Sys2Proof.Machine

/-! ### The index increment (R131) -/

/-- Settles O13: the increment without a divider is the one modulo `C`. -/
theorem indexIncrement : Obligations.IndexIncrement := fun _ _ h => ⟨inc_eq_mod h, inc_lt h⟩

/-! ### `PUT` (R132) -/

/-- Settles O15: the buffer is what `PUT`'s body leaves, whose registers and slots the laws of `putBody` give. -/
theorem putStoresAndEvictsSilently : Obligations.PutStoresAndEvictsSilently := by
  refine fun s f => ⟨rfl, fun hp hu hh ht => ⟨s.rb.putBody s.cfg.rbC s.cfg.cntw f s.env.now,
    execPut_of_usable hp hu hh f, fun a => ?_, RB.putBody_ovf .., ?_, ?_, ?_, RB.putBody_hwm .., RB.putBody_puts ..,
    RB.putBody_gets .., ?_⟩⟩
  · rw [RB.putBody_mem, Memory.read_write]
  · rw [RB.putBody_tail, inc_eq_mod ht]
  · rw [RB.putBody_head, inc_eq_mod hh]
  · rw [RB.putBody_full, RB.putBody_head, RB.putBody_tail]
  · rw [RB.putBody_usable, hu]

/-! ### Any number of `PUT`s (R133) -/

/-- The last `PUT` of a sequence acts on what the ones before it leave. -/
theorem RB.putAll_concat (c w : Nat) (l : List (Frame × Timestamp)) (p : Frame × Timestamp) (b : RB) :
    b.putAll c w (l ++ [p]) = (b.putAll c w l).putBody c w p.1 p.2 := by
  simp [RB.putAll]

/-- Cutting to the last `n` entries before more are appended makes no difference to the last `n` afterwards. -/
theorem lastOf_lastOf_append {α : Type} (n : Nat) (l m : List α) : lastOf n (lastOf n l ++ m) = lastOf n (l ++ m) := by
  have hdrop : lastOf n l ++ m = (l ++ m).drop (l.length - n) :=
    (List.drop_append_of_le_length (Nat.sub_le ..)).symm
  rw [hdrop, lastOf, lastOf, List.drop_drop, List.length_drop, List.length_append]
  congr 1
  omega

@[simp] theorem RB.contents_of_empty {c : Nat} {b : RB} (h : b.occ c = 0) : b.contents c = [] := by
  simp [RB.contents, RB.window, h]

section PutsIntoFresh
variable {c : Nat} (hc : 1 ≤ c) (w : Nat) (l : List (Frame × Timestamp))
include hc

theorem RB.sound_putAll_fresh : (RB.fresh.putAll c w l).Sound c := by
  induction l using List.reverseRecOn with
  | nil => exact RB.Sound.of_zero hc rfl rfl rfl (Nat.zero_le c)
  | append_singleton l p ih =>
    rw [RB.putAll_concat]
    exact ih.putBody ..

theorem RB.occ_putAll_fresh : (RB.fresh.putAll c w l).occ c = min l.length c := by
  induction l using List.reverseRecOn with
  | nil => simp [RB.putAll]
  | append_singleton l p ih =>
    rw [RB.putAll_concat, (RB.sound_putAll_fresh hc w l).occ_putBody, ih, List.length_append, List.length_singleton]
    omega

/-- Each `PUT` past the capacity evicts one entry: the buffer is full exactly when `C` or more went in before it. -/
theorem RB.ovf_putAll_fresh : (RB.fresh.putAll c w l).ovf = (l.length - c) % 2 ^ w := by
  induction l using List.reverseRecOn with
  | nil => simp [RB.putAll, RB.fresh]
  | append_singleton l p ih =>
    have hs := RB.sound_putAll_fresh hc w l
    have hfull : (RB.fresh.putAll c w l).full = true ↔ c ≤ l.length := by
      rw [RB.full_iff_occ hs.head_lt hs.tail_lt, RB.occ_putAll_fresh hc, min_eq_right_iff]
    rw [RB.putAll_concat, RB.putBody_ovf, ih, List.length_append, List.length_singleton]
    split
    · rw [wrap, Nat.mod_add_mod, Nat.sub_add_comm (hfull.1 ‹_›)]
    · have hlt : l.length < c := Nat.lt_of_not_le (hfull.not.1 ‹_›)
      rw [Nat.sub_eq_zero_of_le hlt, Nat.sub_eq_zero_of_le hlt.le]

theorem RB.hwm_putAll_fresh : (RB.fresh.putAll c w l).hwm = min l.length c := by
  induction l using List.reverseRecOn with
  | nil => simp [RB.putAll, RB.fresh]
  | append_singleton l p ih =>
    have hocc := RB.occ_putAll_fresh hc w (l ++ [p])
    rw [RB.putAll_concat] at hocc ⊢
    rw [RB.putBody_hwm, ih, hocc, List.length_append]
    omega

theorem RB.contents_putAll_fresh :
    (RB.fresh.putAll c w l).contents c = lastOf c (l.map fun p => ⟨p.1, p.2⟩) := by
  induction l using List.reverseRecOn with
  | nil => simp [RB.putAll, lastOf]
  | append_singleton l p ih =>
    rw [RB.putAll_concat, (RB.sound_putAll_fresh hc w l).contents_putBody, ih, lastOf_lastOf_append, List.map_append,
      List.map_singleton]

end PutsIntoFresh

theorem RB.puts_putAll_fresh (c w : Nat) (l : List (Frame × Timestamp)) :
    (RB.fresh.putAll c w l).puts = l.length % 2 ^ w := by
  induction l using List.reverseRecOn with
  | nil => simp [RB.putAll, RB.fresh]
  | append_singleton l p ih => simp [RB.putAll_concat, ih, wrap]

theorem RB.gets_putAll (c w : Nat) (l : List (Frame × Timestamp)) (b : RB) : (b.putAll c w l).gets = b.gets := by
  induction l using List.reverseRecOn with
  | nil => rfl
  | append_singleton l p ih => simp [RB.putAll_concat, ih]

/-- Settles O23, register by register, each by induction on the `PUT`s with the last one taken off. -/
theorem putsIntoAFreshBuffer : Obligations.PutsIntoAFreshBuffer := fun c w l hc =>
  ⟨RB.occ_putAll_fresh hc w l, RB.ovf_putAll_fresh hc w l, RB.puts_putAll_fresh c w l, RB.gets_putAll c w l _,
    RB.hwm_putAll_fresh hc w l, RB.contents_putAll_fresh hc w l⟩

/-! ### The gate of an unusable buffer (R148) -/

/-- A consumer operation that its port and the adapter's gate let pass is refused by an unusable buffer (R148). -/
theorem State.onConsumerPort_of_unusable {u : UnitId} {s : State} (hp : s.port = u.consumerPort)
    (hst : u = .adp → s.st = .ready) (hu : (s.buf u).usable = false) (fmt : RespFormat)
    (whole : Nat → Nat → RB → Except Fault (RB × Response)) (acts : List MicroAct) :
    s.onConsumerPort fmt whole acts = .next (s.withResp (fmt.failed .unusable)) := by
  cases u with
  | rb => simp [State.onConsumerPort, hp, UnitId.consumerPort, State.onBuffer, hu]
  | adp => simp [State.onConsumerPort, hp, UnitId.consumerPort, State.whenReady_eq, hst, State.onBuffer, hu]

/-- Every consumer operation is one of the shared form, in its own format; `INSTIME` has used up its free value. -/
theorem exec_of_mem_consumerInstrs {i : Instr} {fmt : RespFormat} (hi : i ∈ consumerInstrs)
    (hfmt : responseFormat i = some fmt) (s : State) :
    ∃ n whole acts, exec i s = (s.useFree n).onConsumerPort fmt whole acts := by
  have accessor (q : Query) : ∃ n whole acts, s.accessor q = (s.useFree n).onConsumerPort q.format whole acts :=
    ⟨0, fun c _ b => .ok (b, q.answer c b), accessorActs q, rfl⟩
  cases i with
  | get => cases hfmt; exact ⟨0, RB.get, getActs, rfl⟩
  | peek => cases hfmt; exact ⟨0, fun c _ => RB.peek c, peekActs, rfl⟩
  | instime => cases hfmt; exact ⟨1, fun c _ => RB.instime c _, instimeActs _, rfl⟩
  | clear => cases hfmt; exact ⟨0, fun _ _ b => .ok (b.clear, .rs .ok), clearActs, rfl⟩
  | avail | occ | free | full | empty | hwm | putcnt | getcnt | ovfcnt => cases hfmt; exact accessor _
  | put | construct | init | aavail | getmsg | send | reset | rxcnt | txcnt | pstep => simp [consumerInstrs] at hi

theorem execPut_of_unusable {s : State} (hp : s.port = .rbP) (hu : s.rb.usable = false) (f : Frame) :
    execPut f s = .next (s.withResp (.rs .unusable)) := by
  have hput : s.rb.put s.cfg.rbC s.cfg.cntw f s.env.now = .ok (s.rb, .rs .unusable) := by simp [RB.put, hu]
  simp only [execPut, hp, hput]
  rfl

/-- Settles O29, by the gate of `PUT` and the one gate of all consumer operations. -/
theorem unusableBufferRefusesCommands : Obligations.UnusableBufferRefusesCommands := by
  refine ⟨fun s f hp hu => execPut_of_unusable hp hu f, fun u s i fmt hi hfmt hp hst hu => ?_⟩
  obtain ⟨n, whole, acts, hexec⟩ := exec_of_mem_consumerInstrs hi hfmt s
  rw [hexec, State.onConsumerPort_of_unusable (u := u) (s := s.useFree n) hp hst (by simpa using hu)]
  exact ⟨s.free + n, rfl⟩

/-! ### `GET`, `PEEK` and `INSTIME` (R136, R140, R144) -/

section EmptyBuffer
variable {u : UnitId} {s : State} (hs : s.serves u) (ha : s.cfg.atomic = true) (ho : (s.buf u).occ (s.cap u) = 0)
include hs ha ho

theorem execGet_of_empty : execGet s = .next (s.withResp (.rf .empty false Frame.zero)) := by
  simp [execGet, State.onConsumerPort_of_serves hs ha, RB.get, ho, State.finishBuf, RespFormat.failed]

theorem execPeek_of_empty : execPeek s = .next (s.withResp (.rf .empty false Frame.zero)) := by
  simp [execPeek, State.onConsumerPort_of_serves hs ha, RB.peek, ho, State.finishBuf, RespFormat.failed]

theorem execInstime_of_empty : execInstime s =
    .next ((s.useFree 1).withResp (.rt .empty false (BitVec.ofNat 32 (Config.freeValue s.free)))) := by
  simp [execInstime, State.onConsumerPort_of_serves (hs.useFree 1) ha, RB.instime, ho, State.finishBuf]

end EmptyBuffer

/-- What `GET` leaves, with the increment as the rule writes it (R131, R136). -/
theorem RB.taken_eq {c : Nat} {b : RB} (ht : b.tail < c) (w : Nat) :
    b.taken c w = { b with full := false, tail := (b.tail + 1) % c, gets := (b.gets + 1) % 2 ^ w } := by
  rw [← inc_eq_mod ht]
  rfl

/-- Settles O16, by the two arms of `GET`. -/
theorem getReturnsTheTailFrame : Obligations.GetReturnsTheTailFrame := by
  refine ⟨by decide, rfl, fun u s hs ha ht => ⟨execGet_of_empty hs ha, fun e ho hr => ?_⟩⟩
  rw [← RB.taken_eq ht]
  exact execGet_of_tailEntry hs ha ho (RB.tailEntry_of_read ht hr)

/-- Settles O17, by the two arms of `PEEK`. -/
theorem peekReturnsTheTailFrameAndChangesNothing : Obligations.PeekReturnsTheTailFrameAndChangesNothing :=
  ⟨by decide, rfl, fun _ _ hs ha ht =>
    ⟨execPeek_of_empty hs ha, fun _ ho hr => execPeek_of_tailEntry hs ha ho (RB.tailEntry_of_read ht hr)⟩⟩

/-- Settles O18, by the two arms of `INSTIME`. -/
theorem instimeReturnsTheTailTimestamp : Obligations.InstimeReturnsTheTailTimestamp :=
  ⟨by decide, rfl, fun _ _ hs ha ht =>
    ⟨fun ho => ⟨_, _, execInstime_of_empty hs ha ho⟩,
      fun _ ho hr => ⟨_, execInstime_of_tailEntry hs ha ho (RB.tailEntry_of_read ht hr)⟩⟩⟩

/-! ### `CLEAR` (R146) -/

theorem execClear_of_serves {u : UnitId} {s : State} (hs : s.serves u) (ha : s.cfg.atomic = true) :
    execClear s = .next ((s.setBuf u (s.buf u).clear).withResp (.rs .ok)) := by
  simp [execClear, State.onConsumerPort_of_serves hs ha, State.finishBuf]

/-- Settles O19: a cleared buffer has no occupied window. -/
theorem clearEmptiesAndKeepsCounters : Obligations.ClearEmptiesAndKeepsCounters := by
  refine ⟨by decide, rfl, fun u s hs ha => ⟨_, execClear_of_serves hs ha, rfl, ?_, ?_⟩⟩ <;> simp

/-! ### `CONSTRUCT` (R130) -/

/-- What `CONSTRUCT` leaves is what the statements call a constructed buffer. -/
theorem constructed_spec (c w : Nat) (ok : Bool) (n : Nat) : Constructed ok c (constructed c w ok n) := by
  cases ok
  · exact ⟨rfl, rfl⟩
  · rfl

/-- Only the failed allocation of at least one entry is answered `UNUSABLE` (R130(b), U12). Log entry 10. -/
theorem constructStatus_eq (c : Nat) (ok : Bool) :
    constructStatus c ok = if c = 0 ∨ ok = true then .ok else .unusable := by
  by_cases hc : c = 0 <;> simp [constructStatus, hc]

theorem execConstruct_of_atomic {s : State} (hp : s.port = .rbC) (ha : s.cfg.atomic = true) : execConstruct s =
    .next (((s.useFree unusableFreeValues).setBuf .rb (constructed s.cfg.rbC s.cfg.cntw s.env.allocOk s.free)).withResp
      (.rs (constructStatus s.cfg.rbC s.env.allocOk))) := by
  simp only [execConstruct, hp]
  exact State.wholeOrSplit_of_atomic (s := s.useFree _) ha ..

/-- Settles O20, by what a construction leaves and the status it answers. -/
theorem constructMakesAFreshOrUnusableBuffer : Obligations.ConstructMakesAFreshOrUnusableBuffer := by
  refine ⟨by decide, rfl, fun s hp ha => ⟨_, execConstruct_of_atomic hp ha, constructed_spec .., ?_, rfl⟩⟩
  rw [State.withResp_resp, constructStatus_eq]

end Sys2Proof.Machine

/-! ## Scope: the ring buffer's accessors -/

namespace Sys2Proof.Machine

/-! ### What an accessor answers (R169) -/

/-- Where a unit serves, an atomic accessor answers what it reads of the unit's buffer and changes nothing else (R169). -/
theorem State.accessor_of_serves {u : UnitId} {s : State} (hs : s.serves u) (ha : s.cfg.atomic = true) (q : Query) :
    s.accessor q = .next (s.withResp (q.answer (s.cap u) (s.buf u))) := by
  rw [State.accessor, State.onConsumerPort_of_serves hs ha, State.finishBuf, State.setBuf_self, State.answer]

/-! ### The ranges of the occupancy (R32) -/

section SoundBuffer
variable {c : Nat} {b : RB} (h : b.Sound c)
include h

theorem RB.Sound.capacity_pos : 1 ≤ c := h.1

theorem RB.Sound.occ_le : b.occ c ≤ c := RB.occ_le h.head_lt h.tail_lt

/-- The stored flag says that the occupancy has reached the capacity (R27, R30). -/
theorem RB.Sound.full_iff : b.full = true ↔ b.occ c = c := by
  obtain ⟨-, -, -, -, hfull, -⟩ := h
  exact hfull

theorem RB.Sound.full_eq_decide : b.full = decide (b.occ c = c) :=
  Bool.eq_iff_iff.mpr (h.full_iff.trans decide_eq_true_iff.symm)

/-- No slot is free exactly on a full buffer (R162). -/
theorem RB.Sound.free_eq_zero_iff : c - b.occ c = 0 ↔ b.full = true := by
  have hle := h.occ_le
  rw [h.full_iff]
  omega

/-- All slots are free exactly on an empty buffer (R162). -/
theorem RB.Sound.free_eq_capacity_iff : c - b.occ c = c ↔ b.occ c = 0 := by
  have hpos := h.capacity_pos
  omega

end SoundBuffer

/-! ### The nine accessors (R160 to R168) -/

/-- Settles O26, by the answers of the accessors and the two ends of a sound buffer's occupancy. -/
theorem booleanAccessorsAnswer : Obligations.BooleanAccessorsAnswer :=
  ⟨by decide, rfl, by decide, rfl, by decide, rfl, fun _ _ hs ha =>
    ⟨State.accessor_of_serves hs ha .avail, State.accessor_of_serves hs ha .full, State.accessor_of_serves hs ha .empty,
      fun h => ⟨h.full_eq_decide, RB.occ_eq_zero_iff h.tail_lt⟩⟩⟩

/-- Settles O27, by the answers of the accessors and the range of a sound buffer's occupancy. -/
theorem occupancyAccessorsAnswer : Obligations.OccupancyAccessorsAnswer :=
  ⟨by decide, rfl, by decide, rfl, fun _ _ hs ha =>
    ⟨State.accessor_of_serves hs ha .occ, State.accessor_of_serves hs ha .free,
      fun h => ⟨h.occ_le, h.full_iff.symm, h.free_eq_zero_iff, h.free_eq_capacity_iff⟩⟩⟩

/-- Settles O28, by the answers of the accessors. -/
theorem counterAccessorsAnswer : Obligations.CounterAccessorsAnswer :=
  ⟨by decide, rfl, by decide, rfl, by decide, rfl, by decide, rfl, fun _ _ hs ha =>
    ⟨State.accessor_of_serves hs ha .hwm, State.accessor_of_serves hs ha .puts, State.accessor_of_serves hs ha .gets,
      State.accessor_of_serves hs ha .ovf⟩⟩

end Sys2Proof.Machine

/-! ## Scope: the adapter's operations -/

namespace Sys2Proof.Machine

/-! ### The adapter's gate (R180) -/

/-- On port `A` of a `READY` adapter an application command runs its body. -/
theorem State.onApplicationPort_of_ready {s : State} (h : s.applicationReady) (fmt : RespFormat) (k : State → Out) :
    s.onApplicationPort fmt k = k s := by
  obtain ⟨hp, hst⟩ := h
  simp [State.onApplicationPort, hp, State.whenReady_eq, hst]

/-- On port `A` of an adapter that is not `READY` an application command is refused. -/
theorem State.onApplicationPort_of_not_ready {s : State} (hp : s.port = .adpA) (hst : s.st ≠ .ready) (fmt : RespFormat)
    (k : State → Out) : s.onApplicationPort fmt k = .next (s.withResp (fmt.failed .notReady)) := by
  simp [State.onApplicationPort, hp, State.whenReady_eq, hst]

/-- On port `A` of an adapter that is not `READY` a forwarded command is refused before the buffer's gate (R222). -/
theorem State.onConsumerPort_of_not_ready {s : State} (hp : s.port = .adpA) (hst : s.st ≠ .ready) (fmt : RespFormat)
    (whole : Nat → Nat → RB → Except Fault (RB × Response)) (acts : List MicroAct) :
    s.onConsumerPort fmt whole acts = .next (s.withResp (fmt.failed .notReady)) := by
  simp [State.onConsumerPort, hp, State.whenReady_eq, hst]

/-- An application command that runs whole, on port `A` of a `READY` adapter with atomic operations (R63). -/
theorem State.onApplicationPort_of_atomic {s : State} (h : s.applicationReady) (ha : s.cfg.atomic = true)
    (fmt : RespFormat) (whole : State → Out) (acts : List MicroAct) :
    s.onApplicationPort fmt (State.wholeOrSplit .adp whole acts) = whole s :=
  (State.onApplicationPort_of_ready h ..).trans (State.wholeOrSplit_of_atomic ha ..)

/-- Settles O30: a forwarded command and an application command meet the same gate. -/
theorem uninitialisedAdapterRefusesCommands : Obligations.UninitialisedAdapterRefusesCommands := by
  intro s i fmt hp hst hacc hinit hfmt
  have hnr : s.st ≠ .ready := by simp [hst]
  have forwarded (hi : i ∈ consumerInstrs) :
      ∃ n : Nat, exec i s = .next { s with free := n, resp := some (fmt.failed .notReady) } := by
    obtain ⟨n, whole, acts, hexec⟩ := exec_of_mem_consumerInstrs hi hfmt s
    exact ⟨s.free + n, hexec.trans (State.onConsumerPort_of_not_ready (s := s.useFree n) hp hnr ..)⟩
  cases i with
  | get | peek | instime | clear | avail | occ | free | full | empty | hwm | putcnt | getcnt | ovfcnt =>
    exact forwarded (by simp [consumerInstrs])
  | aavail | getmsg | send | reset | rxcnt | txcnt =>
    cases hfmt
    exact ⟨s.free, State.onApplicationPort_of_not_ready hp hnr ..⟩
  | init poll xtal => exact absurd rfl (hinit poll xtal)
  | put | construct | pstep => cases hacc

/-! ### Forwarding (R210) -/

/-- The units exchanged and the request on port `A`: what a command of RB port `C` looks like to the adapter that forwards
it. -/
def State.forwarded (t : State) : State := { t.swapUnits with port := .adpA }

/-- A request on port `A` is the forwarded form of one on RB port `C` with the two buffers exchanged. -/
theorem State.forwarded_swapUnits {s : State} (hp : s.port = .adpA) :
    State.forwarded { s.swapUnits with port := .rbC } = s := by
  cases s
  cases hp
  rfl

/-- A buffer operation's result is put back into the buffer it came from. -/
theorem State.finishBuf_forwarded (r : Except Fault (RB × Response)) (t : State) :
    t.forwarded.finishBuf .adp r = mapOut State.forwarded (t.finishBuf .rb r) := by
  cases r <;> rfl

/-- A micro-step that both units have does to `rx` what it does to the standalone buffer (R281). -/
theorem State.runAct_forwarded {a : MicroAct} (hrb : a.belongsTo .rb = true) (hadp : a.belongsTo .adp = true)
    (rest : List MicroAct) (t : State) :
    t.forwarded.runAct .adp a rest = mapOut State.forwarded (t.runAct .rb a rest) := by
  cases a with
  | checkNotEmpty onEmpty =>
    have hocc : (t.forwarded.buf .adp).occ (t.forwarded.cap .adp) = (t.buf .rb).occ (t.cap .rb) := rfl
    simp only [State.runAct, hocc]
    split <;> rfl
  | readFrame | answerPeek | answerTime =>
    have hentry : (t.forwarded.buf .adp).tailEntry (t.forwarded.cap .adp) = (t.buf .rb).tailEntry (t.cap .rb) := rfl
    simp only [State.runAct, hentry]
    cases (t.buf .rb).tailEntry (t.cap .rb) <;> rfl
  | build k b => simp_all [MicroAct.belongsTo]
  | countReceived | countSent | storePoll | storeXtal | writeSt | writeIrq | callChip | readReceived | readSent => cases hrb
  | clearFull | advanceTail | countGet | zeroHead | zeroTail | answerLatched | sample | answer => rfl

/-- An operation on a buffer is the same on `rx` and on the standalone buffer, whole or in micro-steps (R210). -/
theorem State.onBuffer_forwarded {a : MicroAct} (hrb : a.belongsTo .rb = true) (hadp : a.belongsTo .adp = true)
    (rest : List MicroAct) (fmt : RespFormat) (whole : RB → Except Fault (RB × Response)) (t : State) :
    t.forwarded.onBuffer .adp fmt whole (a :: rest) =
      mapOut State.forwarded (t.onBuffer .rb fmt whole (a :: rest)) := by
  have husable : (t.forwarded.buf .adp).usable = (t.buf .rb).usable := rfl
  have hatomic : t.forwarded.cfg.atomic = t.cfg.atomic := rfl
  simp only [State.onBuffer, State.wholeOrSplit, husable, hatomic]
  split
  · split
    · exact State.finishBuf_forwarded (whole (t.buf .rb)) t
    · exact State.runAct_forwarded hrb hadp rest (t.setMicro .rb ⟨Frame.zero, a :: rest⟩)
  · rfl

/-- A consumer operation arriving on port `A` of a `READY` adapter is the one on RB port `C`, forwarded. -/
theorem State.onConsumerPort_forwarded {a : MicroAct} {rest : List MicroAct} {t : State} (hp : t.port = .rbC)
    (hst : t.st = .ready) (fmt : RespFormat) (whole : Nat → Nat → RB → Except Fault (RB × Response))
    (hrb : a.belongsTo .rb = true) (hadp : a.belongsTo .adp = true) :
    t.forwarded.onConsumerPort fmt whole (a :: rest) =
      mapOut State.forwarded (t.onConsumerPort fmt whole (a :: rest)) := by
  have hst' : t.forwarded.st = .ready := hst
  have hA : t.forwarded.onConsumerPort fmt whole (a :: rest) =
      t.forwarded.whenReady fmt (State.onBuffer .adp fmt (whole t.cfg.rbC t.cfg.cntw) (a :: rest)) := rfl
  rw [hA, State.whenReady_eq, if_pos hst', State.onBuffer_forwarded hrb hadp]
  simp only [State.onConsumerPort, hp]

theorem State.accessor_forwarded {t : State} (hp : t.port = .rbC) (hst : t.st = .ready) (q : Query) :
    t.forwarded.accessor q = mapOut State.forwarded (t.accessor q) :=
  State.onConsumerPort_forwarded hp hst _ _ rfl rfl

/-- Every consumer operation is forwarded. -/
theorem exec_forwarded {i : Instr} (hi : i ∈ consumerInstrs) {t : State} (hp : t.port = .rbC) (hst : t.st = .ready) :
    exec i t.forwarded = mapOut State.forwarded (exec i t) := by
  cases i with
  | get => exact State.onConsumerPort_forwarded hp hst .rf RB.get rfl rfl
  | peek => exact State.onConsumerPort_forwarded hp hst .rf (fun c _ => RB.peek c) rfl rfl
  | instime =>
    exact State.onConsumerPort_forwarded (t := t.useFree 1) hp hst .rt (fun c _ => RB.instime c _) rfl rfl
  | clear => exact State.onConsumerPort_forwarded hp hst .rs (fun _ _ b => .ok (b.clear, .rs .ok)) rfl rfl
  | avail | occ | free | full | empty | hwm | putcnt | getcnt | ovfcnt => exact State.accessor_forwarded hp hst _
  | put | construct | init | aavail | getmsg | send | reset | rxcnt | txcnt | pstep => simp [consumerInstrs] at hi

/-- Settles O32, by the forwarding of every consumer operation. -/
theorem forwardedCommandActsOnTheReceiveBuffer : Obligations.ForwardedCommandActsOnTheReceiveBuffer := by
  rintro s i hi ⟨hp, hst⟩
  have h := exec_forwarded hi (t := { s.swapUnits with port := .rbC }) rfl hst
  rwa [State.forwarded_swapUnits hp] at h

/-! ### Initialisation (R182, R204) -/

/-- With `RXC >= 1` and atomic operations an initialisation runs whole (R63). -/
theorem State.initialise_of_atomic {s : State} (ha : s.cfg.atomic = true) (hrx : 1 ≤ s.cfg.rxC) (poll : Bool)
    (xtal : Xtal) (whole : State → Out) (before : List MicroAct) : s.initialise poll xtal whole before = whole s := by
  simp [State.initialise, Nat.one_le_iff_ne_zero.1 hrx, ha]

theorem State.initialise_of_zero {s : State} (hrx : s.cfg.rxC = 0) (poll : Bool) (xtal : Xtal) (whole : State → Out)
    (before : List MicroAct) : s.initialise poll xtal whole before = .refused .zeroReceiveCapacity := by
  simp [State.initialise, hrx]

/-- `INITBODY` initialises to the operands stored, whatever `st` and `irq_reg` were and after the calls `before` (R182). -/
theorem State.initBody_initialisedTo (s : State) (poll : Bool) (xtal : Xtal) (st : AdpState) (irq : Bool)
    (before : List ChipCall) :
    ∃ t, State.initBody { s with
        cfgPoll := poll, cfgXtal := xtal, st := st, irqReg := irq, calls := s.calls ++ before } = .next t ∧
      s.InitialisedTo poll xtal before t := by
  obtain ⟨t, ht⟩ := State.initBody_completes { s with
    cfgPoll := poll, cfgXtal := xtal, st := st, irqReg := irq, calls := s.calls ++ before }
  refine ⟨t, ht, ?_⟩
  rcases State.initBody_next ht with ⟨hok, rfl⟩ | ⟨hfail, rfl⟩
  · exact ⟨constructed_spec .., constructed_spec .., rfl, fun _ => ⟨rfl, rfl, rfl⟩, fun h => absurd hok h, rfl⟩
  · exact ⟨constructed_spec .., constructed_spec .., rfl, fun h => absurd h hfail, fun _ => ⟨rfl, rfl, rfl⟩, rfl⟩

theorem execInit_of_adpA {s : State} (hp : s.port = .adpA) (poll : Bool) (xtal : Xtal) : execInit poll xtal s =
    s.initialise poll xtal (fun t => { t with cfgPoll := poll, cfgXtal := xtal }.initBody)
      [.storePoll poll, .storeXtal xtal] := by
  simp only [execInit, hp]

/-- Settles O33: `INIT` is `INITBODY` with its own operands stored. -/
theorem initInitialisesOrFails : Obligations.InitInitialisesOrFails := by
  refine fun s poll xtal => ⟨rfl, fun hp ha hrx => ?_⟩
  have h := s.initBody_initialisedTo poll xtal s.st s.irqReg []
  rw [List.append_nil] at h
  rw [exec, execInit_of_adpA hp, State.initialise_of_atomic ha hrx]
  exact h

/-- Settles O34: `RESET` is `INITBODY` with the stored operands, after the adapter is unregistered and the handle recreated. -/
theorem resetReinitialisesWithStoredOperands : Obligations.ResetReinitialisesWithStoredOperands := by
  refine ⟨by decide, rfl, fun s hp => ⟨fun hst => State.onApplicationPort_of_not_ready hp hst .., fun hst ha hrx => ?_⟩⟩
  rw [exec, execReset, State.onApplicationPort_of_ready ⟨hp, hst⟩, State.initialise_of_atomic ha hrx]
  exact s.initBody_initialisedTo s.cfgPoll s.cfgXtal .uninit false [.recreate]

/-- Settles O35: `INIT` and `RESET` initialise, and an initialisation is refused for `RXC = 0`. -/
theorem zeroReceiveCapacityIsRefused : Obligations.ZeroReceiveCapacityIsRefused := by
  refine fun s hrx => ⟨fun poll xtal hp => ?_, fun h => ?_⟩
  · rw [exec, execInit_of_adpA hp, State.initialise_of_zero hrx]
  · rw [exec, execReset, State.onApplicationPort_of_ready h, State.initialise_of_zero hrx]

/-! ### `AAVAIL` (R186) -/

/-- A production step with no frame pending only calls the chip (R200). -/
theorem State.productionStep_of_none {s : State} (hr : s.env.receive = none) :
    s.productionStep = .next (s.call .receive) := by
  simp [State.productionStep, hr]

/-- A production step puts a delivered frame into a usable `rx` (R200). -/
theorem State.productionStep_of_some {s : State} {f : Frame} (hr : s.env.receive = some f) (hu : s.rx.usable = true)
    (hh : s.rx.head < s.cfg.rxC) : s.productionStep =
      .next { s.call .receive with rx := s.rx.putBody s.cfg.rxC s.cfg.cntw f s.env.now } := by
  simp [State.productionStep, hr, RB.put_of_usable hu hh]

/-- In polling mode `AAVAIL` answers after its production step. -/
theorem State.adapterAvailable_of_polling {s t : State} (hpoll : s.cfgPoll = true) (h : s.productionStep = .next t) :
    s.adapterAvailable = t.answerAvailable := by
  simp [State.adapterAvailable, hpoll, h]

/-- In interrupt mode `AAVAIL` only answers. -/
theorem State.adapterAvailable_of_interrupt {s : State} (hpoll : s.cfgPoll = false) (ha : s.cfg.atomic = true) :
    s.adapterAvailable = s.answerAvailable := by
  simp [State.adapterAvailable, hpoll, State.wholeOrSplit_of_atomic ha]

/-- A sound buffer holds an entry after a `PUT` (R132). -/
theorem RB.Sound.available_putBody {c : Nat} {b : RB} (h : b.Sound c) (w : Nat) (f : Frame) (t : Timestamp) :
    (b.putBody c w f t).available c = true := by
  have hpos := h.capacity_pos
  rw [RB.available, decide_eq_true_iff, h.occ_putBody]
  omega

/-- Settles O36, by the mode and by what the chip delivers. -/
theorem aavailPollsInPollingModeOnly : Obligations.AavailPollsInPollingModeOnly := by
  refine ⟨by decide, rfl, fun s hp hst => State.onApplicationPort_of_not_ready hp hst .., fun s h ha => ?_⟩
  have hexec : exec .aavail s = s.adapterAvailable := State.onApplicationPort_of_ready h ..
  refine ⟨fun hpoll => ?_, fun hpoll hr => ?_, fun f hpoll hr hu hs => ?_⟩
  · rw [hexec, State.adapterAvailable_of_interrupt hpoll ha]
    rfl
  · rw [hexec, State.adapterAvailable_of_polling hpoll (State.productionStep_of_none hr)]
    rfl
  · have havail := hs.available_putBody s.cfg.cntw f s.env.now
    rw [hexec, State.adapterAvailable_of_polling hpoll (State.productionStep_of_some hr hu hs.head_lt)]
    simp only [State.answerAvailable, State.call_cfg, havail]
    rfl

/-! ### `GETMSG` (R190) -/

section Getmsg
variable {s : State} (h : s.applicationReady) (ha : s.cfg.atomic = true) (hu : s.rx.usable = true)
include h ha hu

/-- Behind both gates `GETMSG` is the buffer's `GET`, counted. -/
theorem execGetmsg_of_usable : execGetmsg s = s.getAndCount := by
  rw [execGetmsg, State.onApplicationPort_of_ready h, State.takeMessage, if_pos hu, State.wholeOrSplit_of_atomic ha]

theorem execGetmsg_of_empty (ho : s.rx.occ s.cfg.rxC = 0) :
    execGetmsg s = .next (s.withResp (.rf .empty false Frame.zero)) := by
  rw [execGetmsg_of_usable h ha hu]
  simp [State.getAndCount, RB.get, ho, RespFormat.failed, State.countIfReceived]

theorem execGetmsg_of_tailEntry {e : Entry} (ho : s.rx.occ s.cfg.rxC ≠ 0) (he : s.rx.tailEntry s.cfg.rxC = .ok e) :
    execGetmsg s = .next { s with
      rx := s.rx.taken s.cfg.rxC s.cfg.cntw, rxCount := wrap s.cfg.cntw (s.rxCount + 1)
      resp := some (.rf .ok true e.frame) } := by
  rw [execGetmsg_of_usable h ha hu]
  simp [State.getAndCount, RB.get, ho, he, State.countIfReceived, RB.taken, State.withResp]

end Getmsg

/-- Settles O37, by the two arms of the buffer's `GET`. -/
theorem getmsgTakesAndCounts : Obligations.GetmsgTakesAndCounts := by
  refine ⟨by decide, rfl, fun s hp hst => State.onApplicationPort_of_not_ready hp hst .., fun s h ha hu ht =>
    ⟨execGetmsg_of_empty h ha hu, fun e ho hr => ?_⟩⟩
  rw [← RB.taken_eq ht]
  exact execGetmsg_of_tailEntry h ha hu ho (RB.tailEntry_of_read ht hr)

/-! ### `SEND` (R196) -/

/-- The two flag bits are assigned, the bits below them stay (R196, D27). -/
theorem getLsbD_setFlagBits (ext rtr : Bool) (id : FrameId) {k : Nat} (hk : k < 32) :
    (setFlagBits ext rtr id).getLsbD k = if k = 31 then ext else if k = 30 then rtr else id.getLsbD k := by
  simp only [setFlagBits, BitVec.getLsbD_append, -Nat.reduceAdd]
  obtain h | rfl | rfl : k < 30 ∨ k = 30 ∨ k = 31 := by omega
  · have h31 : k < 31 := by omega
    simp [h, h31, h.ne, h31.ne]
  · simp
  · simp

/-- A frame is submitted in one call and counted exactly if the chip accepts it. -/
theorem State.sendFrame_eq (f : Frame) (rtr ext : Bool) (prio : Prio) (s : State) : s.sendFrame f rtr ext prio =
    .next { s with
      calls := s.calls ++ [.send (submitted f rtr ext prio)]
      txCount := if s.env.send then wrap s.cfg.cntw (s.txCount + 1) else s.txCount
      resp := some (.rs (if s.env.send then .ok else .sendFail)) } := by
  cases hsend : s.env.send <;> simp [State.sendFrame, hsend, State.call, State.withResp]

/-- Settles O38: the frame submitted is the header encoder's with the two flag bits assigned. -/
theorem sendSubmitsAndCountsSuccess : Obligations.SendSubmitsAndCountsSuccess := by
  refine fun s f rtr ext prio hp =>
    ⟨rfl, fun hst => State.onApplicationPort_of_not_ready hp hst .., fun hst ha => ⟨submitted f rtr ext prio,
      getLsbD_setFlagBits _ _ _ (by decide), getLsbD_setFlagBits _ _ _ (by decide), fun k hk => ?_, rfl, rfl, ?_⟩⟩
  · have h31 : k ≠ 31 := by omega
    rw [submitted, getLsbD_setFlagBits _ _ _ (by omega), if_neg h31, if_neg hk.ne]
  · rw [exec, execSend, State.onApplicationPort_of_atomic ⟨hp, hst⟩ ha, State.sendFrame_eq]
    rfl

/-! ### `RXCNT` and `TXCNT` (R208, R209) -/

/-- Settles O39, by the adapter's gate and the whole operation behind it. -/
theorem messageCountersAreRead : Obligations.MessageCountersAreRead := by
  refine ⟨by decide, by decide, rfl, rfl, fun s hp => ⟨fun hst => ?_, fun hst ha => ?_⟩⟩
  · exact ⟨State.onApplicationPort_of_not_ready hp hst .., State.onApplicationPort_of_not_ready hp hst ..⟩
  · exact ⟨State.onApplicationPort_of_atomic ⟨hp, hst⟩ ha .., State.onApplicationPort_of_atomic ⟨hp, hst⟩ ha ..⟩

end Sys2Proof.Machine

/-! ## Scope: exceptions — discarded edges, polls of the chip, and what a failure leaves -/

namespace Sys2Proof.Machine

/-! ### Edges (R228) -/

/-- An edge that finds the adapter not `READY` or not registered is discarded. -/
theorem execPstep_of_not_registered {s : State} (h : ¬ (s.st = .ready ∧ s.irqReg = true)) : execPstep s = .next s := by
  unfold execPstep State.takeEdge
  cases hst : s.st
  · rfl
  · have hirq : ¬ s.irqReg = true := fun hirq => h ⟨hst, hirq⟩
    exact if_neg hirq

/-- An edge on a `READY`, registered adapter is a production step. -/
theorem execPstep_of_registered {s : State} (hst : s.st = .ready) (hirq : s.irqReg = true) :
    execPstep s = s.productionStep := by
  simp [execPstep, State.takeEdge, hst, hirq]

/-- Settles O40, by the gate of the edge and by what the chip delivers to the production step behind it. -/
theorem edgeRunsOneProductionStepOrIsDiscarded : Obligations.EdgeRunsOneProductionStepOrIsDiscarded := by
  refine fun s => ⟨execPstep_of_not_registered, fun hst hirq hr => ?_, fun f hst hirq hr hu hh => ?_⟩
  · rw [exec, execPstep_of_registered hst hirq, State.productionStep_of_none hr]
    rfl
  · rw [exec, execPstep_of_registered hst hirq, State.productionStep_of_some hr hu hh]
    rfl

/-! ### Polls of the chip (R240, R271) -/

/-- From `s` to `t` calls may have been made to the chip driver, but no `chip.receive`. -/
def NoPoll (s t : State) : Prop := ∃ l, t.calls = s.calls ++ l ∧ ChipCall.receive ∉ l

theorem NoPoll.of_calls_eq {s t : State} (h : t.calls = s.calls) : NoPoll s t :=
  ⟨[], by rw [h, List.append_nil], List.not_mem_nil⟩

theorem NoPoll.of_call {s t : State} {c : ChipCall} (hc : c ≠ .receive) (h : t.calls = s.calls ++ [c]) : NoPoll s t :=
  ⟨[c], h, by simpa using hc.symm⟩

/-- A production step polls once (R200). -/
theorem State.productionStep_calls {s t : State} (h : s.productionStep = .next t) : t.calls = s.calls ++ [.receive] := by
  rcases State.productionStep_next h with ⟨-, rfl⟩ | ⟨f, -, -, rfl⟩ | ⟨f, -, -, -, rfl⟩ <;> rfl

/-- An initialisation starts the chip and sets its mode (R182). -/
theorem State.receive_not_mem_initCalls (xtal : Xtal) (s : State) : ChipCall.receive ∉ s.initCalls xtal := by
  unfold State.initCalls
  split
  · split <;> simp
  · simp

theorem NoPoll.of_initBody {s t : State} (h : s.initBody = .next t) : NoPoll s t := by
  rcases State.initBody_next h with ⟨-, rfl⟩ | ⟨-, rfl⟩ <;> exact ⟨_, rfl, s.receive_not_mem_initCalls _⟩

/-- A micro-step makes its own call to the chip driver or none (R281). -/
theorem State.effect_calls (u : UnitId) (a : MicroAct) (s : State) :
    (s.effect u a).calls = s.calls ∨ ∃ c, a = .callChip c ∧ (s.effect u a).calls = s.calls ++ [c] := by
  cases a with
  | callChip c => exact .inr ⟨c, rfl, rfl⟩
  | clearFull | advanceTail | countGet | zeroHead | zeroTail => exact .inl (State.updBuf_calls ..)
  | build k b => exact .inl (State.setRing_calls ..)
  | countReceived | countSent | storePoll | storeXtal | writeSt | writeIrq | checkNotEmpty | readFrame | answerLatched
  | answerPeek | answerTime | sample | answer | readReceived | readSent => exact .inl rfl

/-- The writes of a construction make no call to the chip driver (R130). -/
theorem callChip_not_mem_constructActs (call : ChipCall) (k : RingId) (c : Nat) (ok : Bool) (n : Nat) :
    .callChip call ∉ constructActs k c ok n := by simp [constructActs]

theorem receive_not_mem_chipActs (e : Env) (poll : Bool) (xtal : Xtal) : .callChip .receive ∉ chipActs e poll xtal := by
  unfold chipActs
  split
  · split
    · cases poll <;> simp
    · simp
  · simp

theorem State.receive_not_mem_initActs (poll : Bool) (xtal : Xtal) (s : State) :
    .callChip .receive ∉ s.initActs poll xtal := by
  have htail : MicroAct.callChip .receive ∉
      (if s.buffersAllocated && decide (xtal ≠ 3#2) then chipActs s.env poll xtal else [.answer (.rs .initFail)]) := by
    split
    · exact receive_not_mem_chipActs _ _ _
    · simp
  simp only [State.initActs, List.mem_append, not_or]
  exact ⟨⟨⟨by simp, callChip_not_mem_constructActs _ _ _ _ _⟩, callChip_not_mem_constructActs _ _ _ _ _⟩, htail⟩

/-- No operation polls in a micro-step of its own: the production step is never split (R280). -/
theorem State.receive_not_mem_actsOf (i : Instr) (s : State) : .callChip .receive ∉ s.actsOf i := by
  cases i with
  | construct => simp [State.actsOf, callChip_not_mem_constructActs]
  | init | reset => simp [State.actsOf, State.receive_not_mem_initActs]
  | send f rtr ext prio => cases h : s.env.send <;> simp [State.actsOf, sendActs, h]
  | get | peek | instime | clear | avail | occ | free | full | empty | hwm | putcnt | getcnt | ovfcnt | aavail | getmsg
  | rxcnt | txcnt | put | pstep =>
    simp [State.actsOf, getActs, peekActs, instimeActs, clearActs, accessorActs, getmsgActs]

/-- Beginning an operation none of whose micro-steps polls does not poll. -/
theorem NoPoll.of_startMicro {u : UnitId} {acts : List MicroAct} {s t : State} (hacts : .callChip .receive ∉ acts)
    (h : s.startMicro u acts = .next t) : NoPoll s t := by
  cases acts with
  | nil =>
    obtain rfl : s.setMicro u ⟨Frame.zero, []⟩ = t := by simpa [State.startMicro, State.microStep] using h
    exact .of_calls_eq (State.setMicro_calls ..)
  | cons a rest =>
    obtain ⟨m, r, rfl⟩ := State.startMicro_effect h
    have hcalls : ({ (s.effect u a).setMicro u m with resp := r } : State).calls = (s.effect u a).calls :=
      State.setMicro_calls ..
    rcases s.effect_calls u a with heq | ⟨c, rfl, heq⟩
    · exact .of_calls_eq (hcalls.trans heq)
    · have hc : c ≠ .receive := by
        rintro rfl
        exact hacts List.mem_cons_self
      exact .of_call hc (hcalls.trans heq)

/-- Behind the gate `AAVAIL` answers after a production step in polling mode, else at once, or begins to read (R186, R281). -/
theorem State.adapterAvailable_next {s t : State} (h : s.adapterAvailable = .next t) :
    (s.cfgPoll = true ∧ ∃ t', s.productionStep = .next t' ∧ t = t'.withResp (.rl .ok (t'.rx.available t'.cfg.rxC))) ∨
    (s.cfgPoll = false ∧ s.cfg.atomic = true ∧ t = s.withResp (.rl .ok (s.rx.available s.cfg.rxC))) ∨
    (s.cfgPoll = false ∧ s.cfg.atomic = false ∧ s.startMicro .adp (accessorActs .avail) = .next t) := by
  unfold State.adapterAvailable at h
  split at h
  · split at h <;> cases h
    exact .inl ⟨‹_›, _, ‹_›, rfl⟩
  · have hpoll : s.cfgPoll = false := Bool.eq_false_iff.2 ‹_›
    rcases State.wholeOrSplit_next h with ⟨ha, h⟩ | ⟨ha, h⟩
    · cases h
      exact .inr (.inl ⟨hpoll, ha, rfl⟩)
    · exact .inr (.inr ⟨hpoll, ha, h⟩)

theorem NoPoll.of_initialise {poll : Bool} {xtal : Xtal} {whole : State → Out} {before : List MicroAct} {s t : State}
    (hbefore : .callChip .receive ∉ before) (hwhole : whole s = .next t → NoPoll s t)
    (h : s.initialise poll xtal whole before = .next t) : NoPoll s t := by
  obtain ⟨-, ⟨-, h⟩ | ⟨-, h⟩⟩ := State.initialise_next h
  · exact hwhole h
  · have hacts : .callChip .receive ∉ before ++ s.initActs poll xtal := by
      simp [hbefore, State.receive_not_mem_initActs]
    exact .of_startMicro (s := s.useFree _) hacts h

theorem NoPoll.of_onApplicationPort {fmt : RespFormat} {k : State → Out} {s t : State}
    (hk : k s = .next t → NoPoll s t) (h : s.onApplicationPort fmt k = .next t) : NoPoll s t := by
  rcases State.onApplicationPort_next h with ⟨-, rfl⟩ | ⟨-, -, rfl⟩ | ⟨-, -, h⟩
  · exact .of_calls_eq rfl
  · exact .of_calls_eq rfl
  · exact hk h

theorem NoPoll.of_execInit {poll : Bool} {xtal : Xtal} {s t : State} (h : execInit poll xtal s = .next t) :
    NoPoll s t := by
  unfold execInit at h
  split at h
  · refine .of_initialise ?_ ?_ h
    · simp
    · exact NoPoll.of_initBody
  all_goals
    cases h
    exact .of_calls_eq rfl

/-- `RESET` recreates the handle before it initialises (R204). -/
theorem NoPoll.of_execReset {s t : State} (h : execReset s = .next t) : NoPoll s t := by
  refine .of_onApplicationPort (fun h => .of_initialise ?_ (fun hinit => ?_) h) h
  · simp
  · obtain ⟨l, hcalls, hl⟩ := NoPoll.of_initBody hinit
    exact ⟨.recreate :: l, by simpa using hcalls, by simpa using hl⟩

/-- `SEND` makes one `chip.send` (R196). -/
theorem NoPoll.of_execSend {f : Frame} {rtr ext : Bool} {prio : Prio} {s t : State}
    (h : execSend f rtr ext prio s = .next t) : NoPoll s t := by
  refine .of_onApplicationPort (fun h => ?_) h
  rcases State.wholeOrSplit_next h with ⟨-, h⟩ | ⟨-, h⟩
  · rw [State.sendFrame_eq] at h
    cases h
    exact .of_call (by simp) rfl
  · exact .of_startMicro (s.receive_not_mem_actsOf (.send f rtr ext prio)) h

/-- In state `s` the instruction runs a production step (R186, R228). -/
def RunsProductionStep (i : Instr) (s : State) : Prop :=
  (i = .pstep ∧ s.st = .ready ∧ s.irqReg = true) ∨ (i = .aavail ∧ s.port = .adpA ∧ s.st = .ready ∧ s.cfgPoll = true)

theorem execPstep_polls {s t : State} (h : execPstep s = .next t) :
    NoPoll s t ∨ (RunsProductionStep .pstep s ∧ t.calls = s.calls ++ [.receive]) := by
  rcases State.takeEdge_next h with ⟨-, rfl⟩ | ⟨hst, hirq, h⟩
  · exact .inl (.of_calls_eq rfl)
  · exact .inr ⟨.inl ⟨rfl, hst, hirq⟩, State.productionStep_calls h⟩

/-- In interrupt mode `AAVAIL` only answers, or begins to. -/
theorem execAavail_polls {s t : State} (h : execAavail s = .next t) :
    NoPoll s t ∨ (RunsProductionStep .aavail s ∧ t.calls = s.calls ++ [.receive]) := by
  rcases State.onApplicationPort_next h with ⟨-, rfl⟩ | ⟨-, -, rfl⟩ | ⟨hp, hst, hbody⟩
  · exact .inl (.of_calls_eq rfl)
  · exact .inl (.of_calls_eq rfl)
  rcases State.adapterAvailable_next hbody with ⟨hpoll, t', hprod, rfl⟩ | ⟨-, -, rfl⟩ | ⟨-, -, hsplit⟩
  · have hcalls := State.productionStep_calls hprod
    exact .inr ⟨.inr ⟨rfl, hp, hst, hpoll⟩, hcalls⟩
  · exact .inl (.of_calls_eq rfl)
  · exact .inl (.of_startMicro (s.receive_not_mem_actsOf .aavail) hsplit)

/-- An instruction polls once, inside its production step, or not at all. -/
theorem exec_polls {i : Instr} {s t : State} (h : exec i s = .next t) :
    NoPoll s t ∨ (RunsProductionStep i s ∧ t.calls = s.calls ++ [.receive]) := by
  cases exec_executed h with
  | answered | construct | getmsg | discarded => exact .inl (.of_calls_eq rfl)
  | put | get | clear => exact .inl (.of_calls_eq (State.setBuf_calls ..))
  | init => exact .inl (.of_execInit h)
  | reset => exact .inl (.of_execReset h)
  | refusedFrame | sent => exact .inl (.of_execSend h)
  | edge => exact execPstep_polls h
  | polled => exact execAavail_polls h
  | split u n ha hp hi hst hu hc hsplit =>
    exact .inl (.of_startMicro (s := s.useFree n) (s.receive_not_mem_actsOf i) hsplit)

/-- Settles O46: the calls made are none of `chip.receive`, or that one call. -/
theorem onlyProductionStepsReceive : Obligations.OnlyProductionStepsReceive := by
  intro i s t h
  rcases exec_polls h with ⟨l, hcalls, hl⟩ | ⟨hruns, hcalls⟩
  · exact ⟨l, hcalls, by simp [List.count_eq_zero_of_not_mem hl], fun hm => absurd hm hl⟩
  · exact ⟨[.receive], hcalls, le_rfl, fun _ => hruns⟩

/-! ### What a failure leaves (R224) -/

/-- The state holds the answer of an operation that may have changed it: `OK`, or `INIT_FAIL` of an initialisation (R220). -/
def State.AnswersDone (t : State) : Prop := ∃ r, t.resp = some r ∧ (r.status = .ok ∨ r.status = .initFail)

/-- From `s` to `t` nothing changed but the response, the chip calls made and the model's count of free values, or `t` answers
that something did. -/
def CleanOnFailure (s t : State) : Prop :=
  t = { s with free := t.free, resp := t.resp, calls := t.calls } ∨ t.AnswersDone

/-- An initialisation answers `OK` or `INIT_FAIL` (R182). -/
theorem State.initBody_answersDone {s t : State} (h : s.initBody = .next t) : t.AnswersDone := by
  rcases State.initBody_next h with ⟨-, rfl⟩ | ⟨-, rfl⟩
  · exact ⟨_, rfl, .inl rfl⟩
  · exact ⟨_, rfl, .inr rfl⟩

theorem CleanOnFailure.of_initialise {poll : Bool} {xtal : Xtal} {whole : State → Out} {before : List MicroAct}
    {s t : State} (ha : s.cfg.atomic = true) (hwhole : whole s = .next t → t.AnswersDone)
    (h : s.initialise poll xtal whole before = .next t) : CleanOnFailure s t := by
  obtain ⟨-, ⟨-, h⟩ | ⟨hna, -⟩⟩ := State.initialise_next h
  · exact .inr (hwhole h)
  · simp [ha] at hna

/-- A consumer operation that keeps the buffer where it does not answer `OK`. -/
theorem CleanOnFailure.of_onConsumerPort {fmt : RespFormat} {whole : Nat → Nat → RB → Except Fault (RB × Response)}
    {acts : List MicroAct} {s t : State} (ha : s.cfg.atomic = true)
    (hwhole : ∀ c w b d r, whole c w b = .ok (d, r) → d = b ∨ r.status = .ok)
    (h : s.onConsumerPort fmt whole acts = .next t) : CleanOnFailure s t := by
  rcases State.onConsumerPort_next h with ⟨-, rfl⟩ | ⟨-, -, rfl⟩ | ⟨u, -, -, h⟩
  · exact .inl rfl
  · exact .inl rfl
  rcases State.onBuffer_next h with ⟨-, rfl⟩ | ⟨-, -, b, r, hr, rfl⟩ | ⟨-, hna, -⟩
  · exact .inl rfl
  · rcases hwhole _ _ _ _ _ hr with rfl | hok
    · rw [State.setBuf_self]
      exact .inl rfl
    · exact .inr ⟨r, rfl, .inl hok⟩
  · simp [ha] at hna

theorem CleanOnFailure.of_onApplicationPort {fmt : RespFormat} {k : State → Out} {s t : State}
    (hk : k s = .next t → CleanOnFailure s t) (h : s.onApplicationPort fmt k = .next t) : CleanOnFailure s t := by
  rcases State.onApplicationPort_next h with ⟨-, rfl⟩ | ⟨-, -, rfl⟩ | ⟨-, -, h⟩
  · exact .inl rfl
  · exact .inl rfl
  · exact hk h

theorem CleanOnFailure.of_execGet {s t : State} (ha : s.cfg.atomic = true) (h : execGet s = .next t) :
    CleanOnFailure s t := by
  refine .of_onConsumerPort ha (fun c w b d r hget => ?_) h
  rcases RB.get_ok hget with ⟨-, rfl, -⟩ | ⟨-, e, -, -, rfl⟩
  · exact .inl rfl
  · exact .inr rfl

theorem CleanOnFailure.of_execClear {s t : State} (ha : s.cfg.atomic = true) (h : execClear s = .next t) :
    CleanOnFailure s t := by
  refine .of_onConsumerPort (whole := fun _ _ b => .ok (b.clear, .rs .ok)) ha ?_ h
  rintro _ _ _ _ _ ⟨⟩
  exact .inr rfl

theorem CleanOnFailure.of_execInit {poll : Bool} {xtal : Xtal} {s t : State} (ha : s.cfg.atomic = true)
    (h : execInit poll xtal s = .next t) : CleanOnFailure s t := by
  unfold execInit at h
  split at h
  · refine .of_initialise ha ?_ h
    exact State.initBody_answersDone
  all_goals
    cases h
    exact .inl rfl

theorem CleanOnFailure.of_execReset {s t : State} (ha : s.cfg.atomic = true) (h : execReset s = .next t) :
    CleanOnFailure s t := by
  refine .of_onApplicationPort (fun h => .of_initialise ha ?_ h) h
  exact State.initBody_answersDone

/-- An `AAVAIL` that polls answers `OK` (R186). -/
theorem CleanOnFailure.of_execAavail {s t : State} (ha : s.cfg.atomic = true) (h : execAavail s = .next t) :
    CleanOnFailure s t := by
  refine .of_onApplicationPort (fun h => ?_) h
  rcases State.adapterAvailable_next h with ⟨-, t', -, rfl⟩ | ⟨-, -, rfl⟩ | ⟨-, hna, -⟩
  · exact .inr ⟨_, rfl, .inl rfl⟩
  · exact .inl rfl
  · simp [ha] at hna

theorem CleanOnFailure.of_getAndCount {s t : State} (h : s.getAndCount = .next t) : CleanOnFailure s t := by
  unfold State.getAndCount at h
  split at h <;> cases h
  rcases RB.get_ok ‹_› with ⟨-, rfl, rfl⟩ | ⟨-, e, -, -, rfl⟩
  · exact .inl rfl
  · exact .inr ⟨_, rfl, .inl rfl⟩

theorem CleanOnFailure.of_execGetmsg {s t : State} (ha : s.cfg.atomic = true) (h : execGetmsg s = .next t) :
    CleanOnFailure s t := by
  refine .of_onApplicationPort (fun h => ?_) h
  unfold State.takeMessage at h
  split at h
  · rw [State.wholeOrSplit_of_atomic ha] at h
    exact .of_getAndCount h
  · cases h
    exact .inl rfl

/-- A frame the chip refuses is submitted, and nothing else happens (R196). -/
theorem CleanOnFailure.of_execSend {f : Frame} {rtr ext : Bool} {prio : Prio} {s t : State} (ha : s.cfg.atomic = true)
    (h : execSend f rtr ext prio s = .next t) : CleanOnFailure s t := by
  refine .of_onApplicationPort (fun h => ?_) h
  rw [State.wholeOrSplit_of_atomic ha, State.sendFrame_eq] at h
  cases h
  cases hsend : s.env.send
  · exact .inl rfl
  · exact .inr ⟨_, rfl, .inl rfl⟩

/-- With atomic operations every command but `CONSTRUCT` is clean. -/
theorem exec_cleanOnFailure {i : Instr} {s t : State} (ha : s.cfg.atomic = true) (hc : i ≠ .construct) (he : i ≠ .pstep)
    (h : exec i s = .next t) : CleanOnFailure s t := by
  cases exec_executed h with
  | answered => exact .inl rfl
  | put => exact .inr ⟨_, rfl, .inl rfl⟩
  | get => exact .of_execGet ha h
  | clear => exact .of_execClear ha h
  | init => exact .of_execInit ha h
  | reset => exact .of_execReset ha h
  | getmsg => exact .of_execGetmsg ha h
  | refusedFrame | sent => exact .of_execSend ha h
  | polled => exact .of_execAavail ha h
  | split u n hna => simp [ha] at hna
  | construct => exact absurd rfl hc
  | discarded | edge => exact absurd rfl he

/-- Settles O45: a status other than `OK` and `INIT_FAIL` leaves the first arm of `CleanOnFailure`. -/
theorem failureChangesNothing : Obligations.FailureChangesNothing := by
  intro i s t r ha h hc he hr hok hinit
  rcases exec_cleanOnFailure ha hc he h with hclean | ⟨r', hr', hdone⟩
  · rwa [hr] at hclean
  · obtain rfl : r = r' := Option.some.inj (hr.symm.trans hr')
    exact absurd hdone (not_or_intro hok hinit)

end Sys2Proof.Machine

/-! ## Scope: reset and hazards — operations in micro-steps, and producer steps in their gaps -/

namespace Sys2Proof.Machine

/-! ### Runs of micro-steps (R280, R281) -/

/-- The micro-step only writes: it neither answers nor reads. -/
def MicroAct.writes : MicroAct → Bool
  | .clearFull | .advanceTail | .countGet | .zeroHead | .zeroTail | .countReceived | .countSent | .build _ _ => true
  | .storePoll _ | .storeXtal _ | .writeSt _ | .writeIrq _ | .callChip _ => true
  | .checkNotEmpty _ | .readFrame | .answerLatched | .answerPeek | .answerTime | .sample _ | .answer _ => false
  | .readReceived | .readSent => false

/-- What the micro-steps `acts` write, one after the other. -/
def State.effects (u : UnitId) (acts : List MicroAct) (s : State) : State := acts.foldl (fun t a => t.effect u a) s

theorem State.effects_append (u : UnitId) (pre post : List MicroAct) (s : State) :
    s.effects u (pre ++ post) = (s.effects u pre).effects u post := List.foldl_append

/-- What micro-steps write does not depend on the operations in progress. -/
theorem State.effects_setMicro (u v : UnitId) (acts : List MicroAct) (m : Micro) (s : State) :
    (s.setMicro v m).effects u acts = (s.effects u acts).setMicro v m := by
  induction acts generalizing s with
  | nil => rfl
  | cons a rest ih => exact (congrArg (State.effects u rest) (State.effect_setMicro ..)).trans (ih _)

/-- With nothing in progress on a unit, ending its operation changes nothing. -/
theorem State.setMicro_idle {u : UnitId} {s : State} (h : s.micro u = Micro.idle) : s.setMicro u Micro.idle = s := by
  rw [← h, State.setMicro_self]

theorem State.effects_idle {u : UnitId} {s : State} (h : s.micro u = Micro.idle) (acts : List MicroAct) :
    (s.effects u acts).setMicro u Micro.idle = s.effects u acts := by
  rw [← State.effects_setMicro, State.setMicro_idle h]

@[simp] theorem andThen_next (s : State) (k : State → Out) : andThen (.next s) k = k s := rfl

theorem microSteps_of_idle {u : UnitId} {s : State} (h : (s.micro u).todo = []) (n : Nat) :
    microSteps u n s = .next s := by
  induction n with
  | zero => rfl
  | succ n ih => rw [microSteps, State.microStep_of_idle h]; exact ih

/-- Beginning an operation and going on is running its micro-steps. -/
theorem andThen_startMicro (u : UnitId) (acts : List MicroAct) (n : Nat) (s : State) :
    andThen (s.startMicro u acts) (microSteps u n) = microSteps u (n + 1) (s.setMicro u ⟨Frame.zero, acts⟩) := rfl

theorem microSteps_cons (u : UnitId) (n : Nat) (l : Frame) (a : MicroAct) (rest : List MicroAct) (s : State) :
    microSteps u (n + 1) (s.setMicro u ⟨l, a :: rest⟩) =
      andThen ((s.setMicro u ⟨l, a :: rest⟩).runAct u a rest) (microSteps u n) := by
  rw [microSteps, State.microStep, State.setMicro_micro]

/-- A micro-step that only writes leaves its effect and the rest to run. -/
theorem State.runAct_of_writes {a : MicroAct} (ha : a.writes = true) (u : UnitId) (l : Frame) (todo rest : List MicroAct)
    (s : State) : (s.setMicro u ⟨l, todo⟩).runAct u a rest = .next ((s.effect u a).setMicro u ⟨l, rest⟩) := by
  have hrun : (s.setMicro u ⟨l, todo⟩).runAct u a rest = .next (((s.setMicro u ⟨l, todo⟩).effect u a).goOn u rest) := by
    cases a with
    | checkNotEmpty | readFrame | answerLatched | answerPeek | answerTime | sample | answer | readReceived | readSent =>
      cases ha
    | clearFull | advanceTail | countGet | zeroHead | zeroTail | countReceived | countSent | build | storePoll | storeXtal
    | writeSt | writeIrq | callChip => rfl
  rw [hrun, State.effect_setMicro, State.goOn, State.setMicro_micro, State.setMicro_setMicro]

/-- Micro-steps that only write leave their effects. -/
theorem microSteps_writes {pre : List MicroAct} (h : ∀ a ∈ pre, a.writes = true) {n : Nat} (hn : pre.length ≤ n)
    (u : UnitId)
    (l : Frame) (rest : List MicroAct) (s : State) :
    microSteps u n (s.setMicro u ⟨l, pre ++ rest⟩) =
      microSteps u (n - pre.length) ((s.effects u pre).setMicro u ⟨l, rest⟩) := by
  induction pre generalizing s n with
  | nil => rfl
  | cons a pre ih =>
    obtain ⟨ha, hpre⟩ := List.forall_mem_cons.1 h
    obtain ⟨m, rfl⟩ : ∃ m, n = m + 1 := Nat.exists_eq_succ_of_ne_zero (by simp at hn; omega)
    have hm : pre.length ≤ m := by simpa using hn
    rw [List.cons_append, microSteps_cons, State.runAct_of_writes ha, andThen_next, ih hpre hm, List.length_cons,
      Nat.add_sub_add_right]
    rfl

/-- Ending an operation, the micro-steps after it do nothing. -/
theorem andThen_endMicro (u : UnitId) (n : Nat) (m : Micro) (r : Response) (s : State) :
    andThen ((s.setMicro u m).endMicro u r) (microSteps u n) = .next ((s.setMicro u Micro.idle).withResp r) := by
  have hidle : (((s.setMicro u Micro.idle).withResp r).micro u).todo = [] := by cases u <;> rfl
  rw [State.endMicro, State.setMicro_setMicro, State.answer_eq, andThen_next, microSteps_of_idle hidle]

/-- What the last micro-step of an operation answers, `l` being the frame latched (R281). -/
def MicroAct.response (l : Frame) : MicroAct → Option Response
  | .answer r => some r
  | .answerLatched => some (.rf .ok true l)
  | _ => none

/-- The last micro-step ends the operation with its answer. -/
theorem microSteps_response {a : MicroAct} {l : Frame} {r : Response} (ha : a.response l = some r) (u : UnitId) (n : Nat)
    (rest : List MicroAct) (s : State) :
    microSteps u (n + 1) (s.setMicro u ⟨l, a :: rest⟩) = .next ((s.setMicro u Micro.idle).withResp r) := by
  rw [microSteps_cons, ← andThen_endMicro u n ⟨l, a :: rest⟩]
  cases a with
  | answer => cases ha; rfl
  | answerLatched => cases ha; rw [State.runAct, State.setMicro_micro]
  | clearFull | advanceTail | countGet | zeroHead | zeroTail | countReceived | countSent | build | storePoll | storeXtal
  | writeSt | writeIrq | callChip | checkNotEmpty | readFrame | answerPeek | answerTime | sample | readReceived
  | readSent => cases ha

/-- An operation of writes and an answer ends with the writes done and the answer given. -/
theorem microSteps_writes_response {pre : List MicroAct} (h : ∀ a ∈ pre, a.writes = true)
    {a : MicroAct} {l : Frame} {r : Response}
    (ha : a.response l = some r) {n : Nat} (hn : pre.length < n) (u : UnitId) (s : State) :
    microSteps u n (s.setMicro u ⟨l, pre ++ [a]⟩) = .next (((s.effects u pre).setMicro u Micro.idle).withResp r) := by
  obtain ⟨m, hm⟩ : ∃ m, n - pre.length = m + 1 := Nat.exists_eq_succ_of_ne_zero (by omega)
  rw [microSteps_writes h hn.le, hm, microSteps_response ha]

/-- Go on with the entry at `tail`; a read that finds none faults (R50, R62). -/
def RB.withTail (c : Nat) (b : RB) (k : Entry → Out) : Out :=
  match b.tailEntry c with
  | .error e => .fault e
  | .ok e => k e

theorem RB.withTail_ok {c : Nat} {b : RB} {e : Entry} (he : b.tailEntry c = .ok e) (k : Entry → Out) :
    b.withTail c k = k e := by
  rw [RB.withTail, he]

section ReadingSteps
variable (u : UnitId) (n : Nat) (l : Frame) (rest : List MicroAct) (s : State)

/-- `g0`, `p0`, `i0`: an empty buffer ends the operation (R281). -/
theorem microSteps_checkNotEmpty (r : Response) :
    microSteps u (n + 1) (s.setMicro u ⟨l, .checkNotEmpty r :: rest⟩) =
      if (s.buf u).occ (s.cap u) = 0 then .next ((s.setMicro u Micro.idle).withResp r)
      else microSteps u n (s.setMicro u ⟨l, rest⟩) := by
  rw [microSteps_cons, ← andThen_endMicro u n ⟨l, .checkNotEmpty r :: rest⟩]
  simp only [State.runAct, State.setMicro_buf, State.setMicro_cap, State.goOn, State.setMicro_micro,
    State.setMicro_setMicro]
  split <;> rfl

/-- `g1`: the frame at `tail` is latched (R281). -/
theorem microSteps_readFrame :
    microSteps u (n + 1) (s.setMicro u ⟨l, .readFrame :: rest⟩) =
      (s.buf u).withTail (s.cap u) (fun e => microSteps u n (s.setMicro u ⟨e.frame, rest⟩)) := by
  rw [microSteps_cons, RB.withTail]
  simp only [State.runAct, State.setMicro_buf, State.setMicro_cap, State.setMicro_setMicro]
  cases (s.buf u).tailEntry (s.cap u) <;> rfl

/-- `p1`: the frame at `tail` is answered (R281). -/
theorem microSteps_answerPeek :
    microSteps u (n + 1) (s.setMicro u ⟨l, .answerPeek :: rest⟩) =
      (s.buf u).withTail (s.cap u) (fun e => .next ((s.setMicro u Micro.idle).withResp (.rf .ok true e.frame))) := by
  rw [microSteps_cons, RB.withTail]
  simp only [State.runAct, State.setMicro_buf, State.setMicro_cap]
  cases (s.buf u).tailEntry (s.cap u) with
  | error => rfl
  | ok e => exact andThen_endMicro ..

/-- `i1`: the timestamp at `tail` is answered (R281). -/
theorem microSteps_answerTime :
    microSteps u (n + 1) (s.setMicro u ⟨l, .answerTime :: rest⟩) =
      (s.buf u).withTail (s.cap u) (fun e => .next ((s.setMicro u Micro.idle).withResp (.rt .ok true e.ts))) := by
  rw [microSteps_cons, RB.withTail]
  simp only [State.runAct, State.setMicro_buf, State.setMicro_cap]
  cases (s.buf u).tailEntry (s.cap u) with
  | error => rfl
  | ok e => exact andThen_endMicro ..

end ReadingSteps

/-- A `GET` whose micro-steps after the latching of the frame are the writes `writes` (R281). -/
def takeActs (writes : List MicroAct) : List MicroAct :=
  .checkNotEmpty (RespFormat.failed .rf .empty) :: .readFrame :: (writes ++ [.answerLatched])

/-- The writes of `GET`. -/
def getWrites : List MicroAct := [.clearFull, .advanceTail, .countGet]

/-- The writes of `GETMSG`. -/
def getmsgWrites : List MicroAct := [.clearFull, .advanceTail, .countGet, .countReceived]

theorem State.updBuf_updBuf (u : UnitId) (g k : RB → RB) (s : State) :
    (s.updBuf u g).updBuf u k = s.updBuf u (fun b => k (g b)) := by cases u <;> rfl

theorem State.updBuf_cap (u : UnitId) (g : RB → RB) (s : State) : (s.updBuf u g).cap u = s.cap u := by cases u <;> rfl

/-- The writes of `GET` take the entry (R136). -/
theorem State.effects_getWrites (u : UnitId) (s : State) :
    s.effects u getWrites = s.setBuf u ((s.buf u).taken (s.cap u) s.cfg.cntw) := by
  simp only [State.effects, getWrites, List.foldl, State.effect, State.updBuf_updBuf, State.updBuf_cap, State.updBuf_cfg]
  rfl

/-- The writes of `GETMSG` take the entry and count it (R190). -/
theorem State.effects_getmsgWrites (s : State) : s.effects .adp getmsgWrites =
    { s with rx := s.rx.taken s.cfg.rxC s.cfg.cntw, rxCount := wrap s.cfg.cntw (s.rxCount + 1) } := by
  have hsplit : getmsgWrites = getWrites ++ [.countReceived] := rfl
  rw [hsplit, State.effects_append, State.effects_getWrites]
  rfl

/-! ### Operations run in micro-steps with nothing between them -/

/-- The micro-steps `acts`, run from `s` with nothing between them, end in `o`. -/
abbrev RunsAs (u : UnitId) (acts : List MicroAct) (s : State) (o : Out) : Prop :=
  microSteps u (enoughMicroSteps + 1) (s.setMicro u ⟨Frame.zero, acts⟩) = o

/-- What a micro-step that lines up its answer has read: that answer (R281). -/
def MicroAct.sampled (u : UnitId) (s : State) : MicroAct → Option Response
  | .sample q => some (q.answer (s.cap u) (s.buf u))
  | .readReceived => some (.rv .ok s.rxCount)
  | .readSent => some (.rv .ok s.txCount)
  | _ => none

theorem State.runAct_of_sampled {u : UnitId} {s : State} {a : MicroAct} {r : Response} (ha : a.sampled u s = some r)
    (l : Frame) (todo rest : List MicroAct) :
    (s.setMicro u ⟨l, todo⟩).runAct u a rest = .next (s.setMicro u ⟨l, .answer r :: rest⟩) := by
  cases a with
  | sample | readReceived | readSent => cases ha; simp [State.runAct, State.goOn]
  | clearFull | advanceTail | countGet | zeroHead | zeroTail | countReceived | countSent | build | storePoll | storeXtal
  | writeSt | writeIrq | callChip | checkNotEmpty | readFrame | answerPeek | answerTime | answer | answerLatched =>
    cases ha

section Idle
variable {u : UnitId} {s : State} (hidle : s.micro u = Micro.idle)
include hidle

/-- An operation that takes an entry answers `EMPTY`, or its writes follow one another and it answers the frame at `tail`. -/
theorem runsAs_takeActs {writes : List MicroAct} (h : ∀ a ∈ writes, a.writes = true) (hn : writes.length < 27) :
    RunsAs u (takeActs writes) s
      (if (s.buf u).occ (s.cap u) = 0 then .next (s.withResp (RespFormat.failed .rf .empty))
      else (s.buf u).withTail (s.cap u) (fun e => .next ((s.effects u writes).withResp (.rf .ok true e.frame)))) := by
  rw [RunsAs, takeActs, enoughMicroSteps, microSteps_checkNotEmpty, microSteps_readFrame, State.setMicro_idle hidle]
  simp only [microSteps_writes_response h (a := .answerLatched) rfl hn, State.effects_idle hidle]

theorem runsAs_get : RunsAs u getActs s (s.finishBuf u ((s.buf u).get (s.cap u) s.cfg.cntw)) := by
  refine (runsAs_takeActs (writes := getWrites) hidle (by decide) (by decide)).trans ?_
  rw [RB.get, RB.withTail, State.effects_getWrites]
  split
  · simp [State.finishBuf]
  · cases (s.buf u).tailEntry (s.cap u) <;> rfl

theorem runsAs_peek : RunsAs u peekActs s (s.finishBuf u ((s.buf u).peek (s.cap u))) := by
  rw [RunsAs, peekActs, enoughMicroSteps, microSteps_checkNotEmpty, microSteps_answerPeek, State.setMicro_idle hidle,
    RB.peek, RB.withTail]
  split
  · simp [State.finishBuf]
  · cases (s.buf u).tailEntry (s.cap u) <;> simp [State.finishBuf]

theorem runsAs_instime (x : Timestamp) :
    RunsAs u (instimeActs x) s (s.finishBuf u ((s.buf u).instime (s.cap u) x)) := by
  rw [RunsAs, instimeActs, enoughMicroSteps, microSteps_checkNotEmpty, microSteps_answerTime, State.setMicro_idle hidle,
    RB.instime, RB.withTail]
  split
  · simp [State.finishBuf]
  · cases (s.buf u).tailEntry (s.cap u) <;> simp [State.finishBuf]

/-- Writes and an answer run as the writes, one after the other, and the answer. -/
theorem runsAs_writes {pre : List MicroAct} (h : ∀ a ∈ pre, a.writes = true) (hn : pre.length ≤ enoughMicroSteps)
    (r : Response) :
    RunsAs u (pre ++ [.answer r]) s ((s.effects u pre).answer r) := by
  rw [RunsAs, microSteps_writes_response h rfl (Nat.lt_succ_of_le hn), State.effects_idle hidle, State.answer]

theorem runsAs_clear : RunsAs u clearActs s (s.finishBuf u (.ok ((s.buf u).clear, .rs .ok))) := by
  refine (runsAs_writes (pre := [.zeroHead, .zeroTail, .clearFull]) hidle (by decide) (by decide) (.rs .ok)).trans ?_
  cases u <;> rfl

/-- A single read runs as its answer. -/
theorem runsAs_sampled {a : MicroAct} {r : Response} (ha : a.sampled u s = some r) : RunsAs u [a] s (s.answer r) := by
  rw [RunsAs, microSteps_cons, State.runAct_of_sampled ha, andThen_next, enoughMicroSteps, microSteps_response rfl,
    State.setMicro_idle hidle, State.answer]

end Idle

/-! ### The constructions (R130, R182, R204) -/

theorem writes_of_mem_constructActs {k : RingId} {c n : Nat} {ok : Bool} {a : MicroAct} (h : a ∈ constructActs k c ok n) :
    a.writes = true := by
  obtain ⟨b, rfl⟩ := mem_constructActs h
  rfl

theorem length_constructActs_le (k : RingId) (c : Nat) (ok : Bool) (n : Nat) : (constructActs k c ok n).length ≤ 9 := by
  cases ok <;> simp [constructActs, buildActs]

/-- Writes of a construction compose on their buffer. -/
theorem State.effects_build (u : UnitId) (k : RingId) (acts : List BuildAct) (s : State) :
    s.effects u (acts.map (MicroAct.build k)) =
      s.setRing k (acts.foldl (fun b a => a.apply (s.ringCap k) s.cfg.cntw b) (s.ring k)) := by
  induction acts generalizing s with
  | nil => simp [State.effects]
  | cons a rest ih =>
    refine (ih (s.effect u (.build k a))).trans ?_
    cases k <;> rfl

/-- The writes of a construction leave the constructed buffer, whatever the buffer was (R130, R50). -/
theorem State.effects_constructActs (u : UnitId) (k : RingId) (ok : Bool) (n : Nat) (s : State) :
    s.effects u (constructActs k (s.ringCap k) ok n) = s.setRing k (constructed (s.ringCap k) s.cfg.cntw ok n) := by
  rw [constructActs, State.effects_build, foldl_buildActs]

/-- The writes of `INITBODY` before its checks (R182). -/
def State.initWrites (s : State) : List MicroAct :=
  [.writeSt .uninit, .writeIrq false] ++ (constructActs .rx s.cfg.rxC s.env.allocOkRx s.free ++
    constructActs .tx s.cfg.txC s.env.allocOkTx (s.free + unusableFreeValues))

theorem State.initActs_eq_initWrites (poll : Bool) (xtal : Xtal) (s : State) :
    s.initActs poll xtal = s.initWrites ++ s.initTail poll xtal := by
  simp [State.initActs_eq, State.initWrites]

theorem State.writes_of_mem_initWrites {s : State} : ∀ a ∈ s.initWrites, a.writes = true := by
  intro a ha
  rcases List.mem_append.1 ha with ha | ha
  · fin_cases ha <;> rfl
  · exact (List.mem_append.1 ha).elim writes_of_mem_constructActs writes_of_mem_constructActs

theorem State.length_initWrites_le (s : State) : s.initWrites.length ≤ 20 := by
  have hrx := length_constructActs_le .rx s.cfg.rxC s.env.allocOkRx s.free
  have htx := length_constructActs_le .tx s.cfg.txC s.env.allocOkTx (s.free + unusableFreeValues)
  simp only [State.initWrites, List.length_append, List.length_cons, List.length_nil]
  omega

/-- The first writes of `INITBODY` unregister the adapter and construct both buffers; the free values were drawn when the
operation began (R182). -/
theorem State.effects_initWrites (s : State) :
    (s.useFree (2 * unusableFreeValues)).effects .adp s.initWrites = s.unregister.constructBuffers := by
  rw [State.initWrites, State.effects_append, State.effects_append]
  refine (congrArg (State.effects .adp _) (State.effects_constructActs .adp .rx ..)).trans ?_
  exact State.effects_constructActs .adp .tx ..

/-- The writes and calls of the chip's part of an initialisation (R182). -/
def chipWrites (e : Env) (poll : Bool) (xtal : Xtal) : List MicroAct :=
  .callChip (.start Config.mode Config.bitrate (Config.profile xtal)) ::
    if e.start then
      .callChip (.setOperatingMode Config.normal) ::
        if e.setMode then (if poll then [] else [.writeIrq true]) ++ [.writeSt .ready] else []
    else []

/-- What the chip's part answers (R182). -/
def chipStatus (e : Env) : Status := if e.start && e.setMode then .ok else .initFail

theorem chipActs_eq (e : Env) (poll : Bool) (xtal : Xtal) :
    chipActs e poll xtal = chipWrites e poll xtal ++ [.answer (.rs (chipStatus e))] := by
  cases hs : e.start <;> cases hm : e.setMode <;> simp [chipActs, chipWrites, chipStatus, hs, hm]

theorem writes_of_mem_chipWrites (e : Env) (poll : Bool) (xtal : Xtal) : ∀ a ∈ chipWrites e poll xtal, a.writes = true := by
  cases hs : e.start <;> cases hm : e.setMode <;> cases poll <;> simp [chipWrites, hs, hm, MicroAct.writes]

theorem length_chipWrites_le (e : Env) (poll : Bool) (xtal : Xtal) : (chipWrites e poll xtal).length ≤ 4 := by
  cases hs : e.start <;> cases hm : e.setMode <;> cases poll <;> simp [chipWrites, hs, hm]

/-- From an unregistered adapter the writes of the chip's part and its answer are the whole of it (R182). -/
theorem State.effects_chipWrites {s : State} (hirq : s.irqReg = false) :
    (s.effects .adp (chipWrites s.env s.cfgPoll s.cfgXtal)).answer (.rs (chipStatus s.env)) = s.startChip := by
  cases hs : s.env.start
  · simp [chipWrites, chipStatus, State.startChip, hs, State.effects, State.effect]
  cases hm : s.env.setMode
  · simp [chipWrites, chipStatus, State.startChip, hs, hm, State.effects, State.effect]
  cases hp : s.cfgPoll <;>
    simp [chipWrites, chipStatus, State.startChip, hs, hm, hp, State.effects, State.effect, State.register, hirq]

/-- `INITBODY` run in micro-steps, the free values drawn when it began, is the whole of it (R182). -/
theorem microSteps_initActs {s : State} (hidle : s.micro .adp = Micro.idle) {n : Nat} (hn : 25 ≤ n) (l : Frame) :
    microSteps .adp n ((s.useFree (2 * unusableFreeValues)).setMicro .adp ⟨l, s.initActs s.cfgPoll s.cfgXtal⟩) =
      s.initBody := by
  have hlen := s.length_initWrites_le
  have hchip := length_chipWrites_le s.env s.cfgPoll s.cfgXtal
  rw [State.initActs_eq_initWrites, microSteps_writes State.writes_of_mem_initWrites (by omega), State.effects_initWrites,
    State.initTail, State.initBody]
  have run (pre : List MicroAct) (h : ∀ a ∈ pre, a.writes = true) (hpre : pre.length ≤ 4) (r : Response) :
      microSteps .adp (n - s.initWrites.length) (s.unregister.constructBuffers.setMicro .adp ⟨l, pre ++ [.answer r]⟩) =
        (s.unregister.constructBuffers.effects .adp pre).answer r := by
    have hidle' : s.unregister.constructBuffers.micro .adp = Micro.idle := by
      rw [← hidle, State.micro, State.micro, State.constructBuffers_adpMicro, State.unregister_adpMicro]
    rw [microSteps_writes_response h rfl (by omega), State.effects_idle hidle', State.answer]
  by_cases ha : s.buffersAllocated = true
  · by_cases hx : s.cfgXtal = 3#2
    · rw [if_neg (by simp [hx]), if_pos ha, if_pos hx]
      exact run [] (by simp) (by simp) _
    · rw [if_pos (by simp [ha, hx]), if_pos ha, if_neg hx, chipActs_eq,
        run _ (writes_of_mem_chipWrites _ _ _) (length_chipWrites_le ..)]
      exact State.effects_chipWrites rfl
  · rw [if_neg (by simp [ha]), if_neg ha]
    exact run [] (by simp) (by simp) _

/-! ### Every operation split is the operation whole (R280) -/

/-- The operation `k`, begun and run in micro-steps with nothing between them, is the atomic operation (R280). -/
def SplitIsWhole (u : UnitId) (k : State → Out) (s : State) : Prop :=
  andThen (k (s.withAtomic false)) (microSteps u enoughMicroSteps) = mapOut (State.withAtomic false) (k (s.withAtomic true))

/-- With `ATOMIC = false` an operation begins with its first micro-step (R280). -/
theorem State.wholeOrSplit_of_split {s : State} (ha : s.cfg.atomic = false) (u : UnitId) (whole : State → Out)
    (acts : List MicroAct) : s.wholeOrSplit u whole acts = s.startMicro u acts := by
  simp [State.wholeOrSplit, ha]

theorem State.mapOut_finishBuf (u : UnitId) (r : Except Fault (RB × Response)) (s : State) :
    mapOut (State.withAtomic false) ((s.withAtomic true).finishBuf u r) = (s.withAtomic false).finishBuf u r := by
  cases r <;> cases u <;> rfl

/-- An operation that runs whole or split, where the whole does the same whatever `ATOMIC` is. -/
theorem SplitIsWhole.wholeOrSplit {u : UnitId} {s : State} {whole : State → Out} {acts : List MicroAct}
    (hrun : RunsAs u acts (s.withAtomic false) (whole (s.withAtomic false)))
    (hwhole : mapOut (State.withAtomic false) (whole (s.withAtomic true)) = whole (s.withAtomic false)) :
    SplitIsWhole u (State.wholeOrSplit u whole acts) s := by
  rw [SplitIsWhole, State.wholeOrSplit_of_split rfl, State.wholeOrSplit_of_atomic rfl, andThen_startMicro, hwhole]
  exact hrun

/-- Operations that do the same with `ATOMIC` true and with it false. -/
theorem SplitIsWhole.congr {u : UnitId} {s t : State} {k k' : State → Out}
    (h : ∀ a, k (s.withAtomic a) = k' (t.withAtomic a)) (hk : SplitIsWhole u k' t) : SplitIsWhole u k s := by
  rw [SplitIsWhole, h, h]
  exact hk

section Gates
variable {u : UnitId} {s : State} (hidle : s.micro u = Micro.idle)
include hidle

theorem SplitIsWhole.answer (r : Response) : SplitIsWhole u (State.answer r) s := by
  have htodo : (((s.withAtomic false).withResp r).micro u).todo = [] := by
    cases u <;> exact congrArg Micro.todo hidle
  rw [SplitIsWhole, State.answer_eq, andThen_next, microSteps_of_idle htodo]
  rfl

theorem SplitIsWhole.wrongPort {k : State → Out} (h : ∀ a, k (s.withAtomic a) = (s.withAtomic a).wrongPort) :
    SplitIsWhole u k s :=
  .congr h (.answer hidle _)

/-- An application command, behind the port's and the adapter's gates (R102, R180). -/
theorem SplitIsWhole.onApplicationPort {fmt : RespFormat} {k : State → Out} (hp : s.port = u.consumerPort)
    (h : u = .adp → SplitIsWhole u k s) : SplitIsWhole u (State.onApplicationPort fmt k) s := by
  cases u with
  | rb => exact .wrongPort hidle fun a =>
      State.onApplicationPort_of_other (s := s.withAtomic a) (by simp [hp, UnitId.consumerPort])
  | adp =>
    cases hst : s.st
    · exact .congr (fun a => State.onApplicationPort_of_not_ready (s := s.withAtomic a) hp (by simp [hst]) fmt k)
        (.answer hidle _)
    · exact .congr (fun a => State.onApplicationPort_of_ready (s := s.withAtomic a) ⟨hp, hst⟩ fmt k) (h rfl)

/-- An operation on the unit's buffer behind the buffer's gate (R148). -/
theorem SplitIsWhole.onBuffer {fmt : RespFormat} {whole : RB → Except Fault (RB × Response)} {acts : List MicroAct}
    (hrun : RunsAs u acts (s.withAtomic false) ((s.withAtomic false).finishBuf u (whole (s.buf u)))) :
    SplitIsWhole u (State.onBuffer u fmt whole acts) s := by
  cases hu : (s.buf u).usable
  · exact .congr (fun a => if_neg (by simp [hu])) (.answer hidle _)
  · refine .congr (fun a => if_pos (by simp [hu])) (.wholeOrSplit ?_ ?_)
    · simpa only [State.withAtomic_buf] using hrun
    · simpa only [State.withAtomic_buf] using State.mapOut_finishBuf ..

/-- A consumer operation on the unit's consumer port, behind the adapter's and the buffer's gates (R102, R148, R180). -/
theorem SplitIsWhole.onConsumerPort {fmt : RespFormat} {whole : Nat → Nat → RB → Except Fault (RB × Response)}
    {acts : List MicroAct} (hp : s.port = u.consumerPort)
    (hrun : ∀ t : State, t.micro u = Micro.idle → RunsAs u acts t (t.finishBuf u (whole (t.cap u) t.cfg.cntw (t.buf u)))) :
    SplitIsWhole u (State.onConsumerPort fmt whole acts) s := by
  have onBuffer : SplitIsWhole u (State.onBuffer u fmt (whole (s.cap u) s.cfg.cntw) acts) s :=
    .onBuffer hidle (by simpa using hrun (s.withAtomic false) (by simpa using hidle))
  cases u with
  | rb => exact .congr (fun a => by simp [State.onConsumerPort, hp, UnitId.consumerPort, State.cap]) onBuffer
  | adp =>
    cases hst : s.st
    · exact .congr (fun a => State.onConsumerPort_of_not_ready (s := s.withAtomic a) hp (by simp [hst]) ..) (.answer hidle _)
    · refine .congr (fun a => ?_) onBuffer
      simp [State.onConsumerPort, hp, UnitId.consumerPort, State.whenReady_eq, hst, State.cap]

theorem SplitIsWhole.accessor (hp : s.port = u.consumerPort) (q : Query) : SplitIsWhole u (State.accessor q) s :=
  .onConsumerPort hidle hp fun t ht => by
    rw [State.finishBuf, State.setBuf_self]
    exact runsAs_sampled ht rfl

end Gates

/-- An initialisation does the same whatever `ATOMIC` is. -/
theorem State.mapOut_initBody (s : State) :
    mapOut (State.withAtomic false) (s.withAtomic true).initBody = (s.withAtomic false).initBody := by
  have hchip (t : State) : mapOut (State.withAtomic false) (t.withAtomic true).startChip = (t.withAtomic false).startChip := by
    cases hs : t.env.start <;> cases hm : t.env.setMode <;> simp [State.startChip, hs, hm] <;> rfl
  have halloc (a : Bool) : (s.withAtomic a).buffersAllocated = s.buffersAllocated := rfl
  simp only [State.initBody, halloc, State.withAtomic_cfgXtal]
  split
  · by_cases hx : s.cfgXtal = 3#2
    · simp only [hx, if_true]
      rfl
    · simp only [hx, if_false]
      exact hchip s.unregister.constructBuffers
  · rfl

/-- A production step does the same whatever `ATOMIC` is. -/
theorem State.mapOut_productionStep (s : State) :
    mapOut (State.withAtomic false) (s.withAtomic true).productionStep = (s.withAtomic false).productionStep := by
  cases hr : s.env.receive with
  | none => simp [State.productionStep, hr]; rfl
  | some f =>
    simp only [State.productionStep, State.call_env, State.withAtomic_env, hr, State.call_rx, State.withAtomic_rx,
      State.call_cfg, State.withAtomic_cfg]
    cases s.rx.put s.cfg.rxC s.cfg.cntw f s.env.now <;> rfl

/-- A counted `GET` does the same whatever `ATOMIC` is. -/
theorem State.mapOut_getAndCount (s : State) :
    mapOut (State.withAtomic false) (s.withAtomic true).getAndCount = (s.withAtomic false).getAndCount := by
  simp only [State.getAndCount, State.withAtomic_rx, State.withAtomic_cfg]
  cases s.rx.get s.cfg.rxC s.cfg.cntw with
  | error => rfl
  | ok p =>
    simp only [State.countIfReceived]
    split <;> rfl

/-- `AAVAIL` in polling mode answers after its production step (R186). -/
theorem State.adapterAvailable_eq_andThen {s : State} (hpoll : s.cfgPoll = true) :
    s.adapterAvailable = andThen s.productionStep State.answerAvailable := by
  rw [State.adapterAvailable, if_pos hpoll]
  cases s.productionStep <;> rfl

section Application
variable {s : State} (hidle : s.micro .adp = Micro.idle)
include hidle

theorem runsAs_getmsg : RunsAs .adp getmsgActs s s.getAndCount := by
  refine (runsAs_takeActs (writes := getmsgWrites) hidle (by decide) (by decide)).trans ?_
  rw [State.getAndCount, RB.get, RB.withTail, State.effects_getmsgWrites]
  by_cases ho : s.rx.occ s.cfg.rxC = 0
  · simp [State.buf, State.cap, ho, State.countIfReceived, RespFormat.failed]
  · simp only [State.buf, State.cap, ho, if_false]
    cases s.rx.tailEntry s.cfg.rxC <;> rfl

theorem runsAs_send (f : Frame) (rtr ext : Bool) (prio : Prio) :
    RunsAs .adp (sendActs (submitted f rtr ext prio) s.env.send) s (s.sendFrame f rtr ext prio) := by
  cases hsend : s.env.send
  · refine (runsAs_writes (pre := [.callChip _]) hidle (by simp [MicroAct.writes]) (by simp [enoughMicroSteps])
      (.rs .sendFail)).trans ?_
    simp [State.sendFrame, hsend, State.effects, State.effect]
  · refine (runsAs_writes (pre := [.callChip _, .countSent]) hidle (by simp [MicroAct.writes])
      (by simp [enoughMicroSteps]) (.rs .ok)).trans ?_
    simp [State.sendFrame, hsend, State.effects, State.effect]

theorem SplitIsWhole.takeMessage : SplitIsWhole .adp State.takeMessage s := by
  cases hu : s.rx.usable
  · exact .congr (fun a => if_neg (by simp [hu])) (.answer hidle _)
  · exact .congr (fun a => if_pos (by simp [hu]))
      (.wholeOrSplit (runsAs_getmsg (s := s.withAtomic false) hidle) s.mapOut_getAndCount)

theorem SplitIsWhole.sendFrame (f : Frame) (rtr ext : Bool) (prio : Prio) :
    SplitIsWhole .adp (State.wholeOrSplit .adp (State.sendFrame f rtr ext prio)
      (sendActs (submitted f rtr ext prio) s.env.send)) s := by
  refine .wholeOrSplit (runsAs_send (s := s.withAtomic false) hidle f rtr ext prio) ?_
  rw [State.sendFrame_eq, State.sendFrame_eq]
  rfl

theorem SplitIsWhole.adapterAvailable : SplitIsWhole .adp State.adapterAvailable s := by
  cases hpoll : s.cfgPoll
  · exact .congr (fun a => if_neg (by simp [hpoll]))
      (.wholeOrSplit (runsAs_sampled (s := s.withAtomic false) hidle rfl) rfl)
  · refine .congr (k' := fun t => andThen t.productionStep State.answerAvailable)
      (fun a => State.adapterAvailable_eq_andThen (s := s.withAtomic a) hpoll) ?_
    rw [SplitIsWhole, ← State.mapOut_productionStep]
    cases hprod : (s.withAtomic true).productionStep with
    | next t =>
      obtain ⟨b, l, rfl⟩ := State.productionStep_frame hprod
      exact SplitIsWhole.answer (s := { s with rx := b, calls := l }) hidle _
    | fault | refused => rfl

/-- An initialisation whose whole is `INITBODY` from the state `t` that the writes `before` leave (R182, R204). -/
theorem SplitIsWhole.initialise {poll : Bool} {xtal : Xtal} {whole : State → Out} {before : List MicroAct} {t : State}
    (hb : ∀ a ∈ before, a.writes = true) (hlen : before.length ≤ 3) (ht : t.micro .adp = s.micro .adp)
    (hbefore : ((s.withAtomic false).useFree (2 * unusableFreeValues)).effects .adp before =
      (t.withAtomic false).useFree (2 * unusableFreeValues))
    (hacts : (s.withAtomic false).initActs poll xtal = (t.withAtomic false).initActs t.cfgPoll t.cfgXtal)
    (hwhole : whole (s.withAtomic true) = (t.withAtomic true).initBody) :
    SplitIsWhole .adp (State.initialise poll xtal whole before) s := by
  by_cases hrx : s.cfg.rxC = 0
  · simp [SplitIsWhole, State.initialise_of_zero, hrx, andThen, mapOut]
  · have hsplit : (s.withAtomic false).initialise poll xtal whole before =
        ((s.withAtomic false).useFree (2 * unusableFreeValues)).startMicro .adp
          (before ++ (s.withAtomic false).initActs poll xtal) := by simp [State.initialise, hrx]
    have hfull : (s.withAtomic true).initialise poll xtal whole before = whole (s.withAtomic true) :=
      State.initialise_of_atomic (s := s.withAtomic true) rfl (Nat.one_le_iff_ne_zero.2 hrx) ..
    rw [SplitIsWhole, hsplit, hfull, hwhole, State.mapOut_initBody, andThen_startMicro,
      microSteps_writes hb (hlen.trans (by decide)), hbefore, hacts]
    exact microSteps_initActs (s := t.withAtomic false) (ht.trans hidle) (by simp only [enoughMicroSteps]; omega) _

theorem SplitIsWhole.init (hp : s.port = .adpA) (poll : Bool) (xtal : Xtal) :
    SplitIsWhole .adp (execInit poll xtal) s :=
  .congr (fun a => execInit_of_adpA (s := s.withAtomic a) hp poll xtal)
    (.initialise (t := { s with cfgPoll := poll, cfgXtal := xtal }) hidle (by simp [MicroAct.writes]) (by simp) rfl rfl
      rfl rfl)

theorem SplitIsWhole.reset :
    SplitIsWhole .adp (State.initialise s.cfgPoll s.cfgXtal (fun t => (t.unregister.call .recreate).initBody)
      [.writeSt .uninit, .writeIrq false, .callChip .recreate]) s :=
  .initialise (t := s.unregister.call .recreate) hidle (by simp [MicroAct.writes]) (by simp) rfl rfl rfl rfl

end Application

/-- `CONSTRUCT` is split at its writes (R130). -/
theorem SplitIsWhole.construct {s : State} (hidle : s.micro .rb = Micro.idle) (hp : s.port = .rbC) :
    SplitIsWhole .rb execConstruct s := by
  have hk (status : Response) : SplitIsWhole .rb (State.wholeOrSplit .rb
      (fun t => { t with rb := constructed s.cfg.rbC s.cfg.cntw s.env.allocOk s.free }.answer status)
      (constructActs .rb s.cfg.rbC s.env.allocOk s.free ++ [.answer status])) (s.useFree unusableFreeValues) := by
    refine .wholeOrSplit ((runsAs_writes (s := (s.useFree unusableFreeValues).withAtomic false) hidle
      (fun a => writes_of_mem_constructActs) ((length_constructActs_le ..).trans (by decide)) status).trans ?_) rfl
    exact congrArg (State.answer status) (State.effects_constructActs .rb .rb ..)
  refine .congr (fun a => ?_) (hk (.rs (constructStatus s.cfg.rbC s.env.allocOk)))
  simp only [execConstruct, State.withAtomic_port, hp]
  rfl

/-- Settles O52: behind the same gates, the micro-steps of each operation run as the operation whole, which does the same
whatever `ATOMIC` is. -/
theorem microStepsAloneEqualTheAtomicOperation : Obligations.MicroStepsAloneEqualTheAtomicOperation := by
  intro i u s hi hp hidle
  change SplitIsWhole u (exec i) s
  cases i with
  | get => exact .onConsumerPort hidle hp fun _ ht => runsAs_get ht
  | peek => exact .onConsumerPort (whole := fun c _ => RB.peek c) hidle hp fun _ ht => runsAs_peek ht
  | instime =>
    have hk (x : Timestamp) :
        SplitIsWhole u (State.onConsumerPort .rt (fun c _ => RB.instime c x) (instimeActs x)) (s.useFree 1) :=
      .onConsumerPort (by simpa using hidle) hp fun _ ht => runsAs_instime ht x
    exact .congr (fun _ => rfl) (hk (BitVec.ofNat 32 (Config.freeValue s.free)))
  | clear => exact .onConsumerPort (whole := fun _ _ b => .ok (b.clear, .rs .ok)) hidle hp fun _ ht => runsAs_clear ht
  | avail | occ | free | full | empty | hwm | putcnt | getcnt | ovfcnt => exact .accessor hidle hp _
  | put f => exact .wrongPort hidle fun a => by cases u <;> simp [exec, execPut, hp, UnitId.consumerPort]
  | construct =>
    cases u with
    | rb => exact .construct hidle hp
    | adp => exact .wrongPort hidle fun a => by simp [exec, execConstruct, hp, UnitId.consumerPort]
  | init poll xtal =>
    cases u with
    | rb => exact .wrongPort hidle fun a => by simp [exec, execInit, hp, UnitId.consumerPort]
    | adp => exact .init hidle hp poll xtal
  | aavail => exact .onApplicationPort hidle hp (by rintro rfl; exact .adapterAvailable hidle)
  | getmsg => exact .onApplicationPort hidle hp (by rintro rfl; exact .takeMessage hidle)
  | send f rtr ext prio =>
    have hk : SplitIsWhole u (State.onApplicationPort .rs (State.wholeOrSplit .adp (State.sendFrame f rtr ext prio)
        (sendActs (submitted f rtr ext prio) s.env.send))) s :=
      .onApplicationPort hidle hp (by rintro rfl; exact .sendFrame hidle f rtr ext prio)
    exact .congr (fun _ => rfl) hk
  | reset =>
    have hk : SplitIsWhole u (State.onApplicationPort .rs (State.initialise s.cfgPoll s.cfgXtal
        (fun t => (t.unregister.call .recreate).initBody) [.writeSt .uninit, .writeIrq false, .callChip .recreate])) s :=
      .onApplicationPort hidle hp (by rintro rfl; exact .reset hidle)
    exact .congr (fun _ => rfl) hk
  | rxcnt | txcnt =>
    refine .onApplicationPort hidle hp ?_
    rintro rfl
    exact .wholeOrSplit (runsAs_sampled (s := s.withAtomic false) hidle rfl) rfl
  | pstep => exact absurd rfl hi

/-! ### Edges inside an initialisation (R280, R228) -/

/-- What an initialisation that has left `READY` still runs: writes that do not make the adapter `READY`, then either an answer
or the write of `READY` and the answer `OK` (R182). -/
def RegistersLast (todo : List MicroAct) : Prop :=
  ∃ pre last, todo = pre ++ last ∧ (∀ a ∈ pre, a.writes = true ∧ a ≠ .writeSt .ready) ∧
    (last = [] ∨ (∃ r, last = [.answer r]) ∨ last = [.writeSt .ready, .answer (.rs .ok)])

/-- Inside an initialisation that has left `READY` the adapter is `UNINIT`, or has become `READY` and has at most the answer
`OK` to give. -/
def State.Initialising (t : State) : Prop :=
  (t.st = .uninit ∧ RegistersLast (t.micro .adp).todo) ∨
  (t.st = .ready ∧ ((t.micro .adp).todo = [.answer (.rs .ok)] ∨ (t.micro .adp).todo = []))

theorem RegistersLast.append {pre todo : List MicroAct} (h : ∀ a ∈ pre, a.writes = true ∧ a ≠ .writeSt .ready)
    (hl : RegistersLast todo) : RegistersLast (pre ++ todo) := by
  obtain ⟨pre', last, rfl, hpre', hlast⟩ := hl
  exact ⟨pre ++ pre', last, by simp, fun a ha => (List.mem_append.1 ha).elim (h a) (hpre' a), hlast⟩

theorem RegistersLast.nil : RegistersLast [] := ⟨[], [], rfl, by simp, .inl rfl⟩

theorem RegistersLast.initTail (poll : Bool) (xtal : Xtal) (s : State) : RegistersLast (s.initTail poll xtal) := by
  unfold State.initTail chipActs
  split
  · cases s.env.start
    · exact ⟨[.callChip _], _, rfl, by simp [MicroAct.writes], .inr (.inl ⟨_, rfl⟩)⟩
    cases s.env.setMode
    · exact ⟨[.callChip _, .callChip _], _, rfl, by simp [MicroAct.writes], .inr (.inl ⟨_, rfl⟩)⟩
    cases poll
    · exact ⟨[.callChip _, .callChip _, .writeIrq true], _, rfl, by simp [MicroAct.writes], .inr (.inr rfl)⟩
    · exact ⟨[.callChip _, .callChip _], _, rfl, by simp [MicroAct.writes], .inr (.inr rfl)⟩
  · exact ⟨[], _, rfl, by simp, .inr (.inl ⟨_, rfl⟩)⟩

/-- `INITBODY` leaves `READY` first. -/
theorem State.initActs_registersLast (poll : Bool) (xtal : Xtal) (s : State) :
    ∃ rest, s.initActs poll xtal = .writeSt .uninit :: rest ∧ RegistersLast rest := by
  have hbuild {k : RingId} {c n : Nat} {ok : Bool} (a : MicroAct) (ha : a ∈ constructActs k c ok n) :
      a.writes = true ∧ a ≠ .writeSt .ready := by
    obtain ⟨b, rfl⟩ := mem_constructActs ha
    exact ⟨rfl, nofun⟩
  exact ⟨_, State.initActs_eq poll xtal s,
    .append (pre := [.writeIrq false]) (by simp [MicroAct.writes]) (.append hbuild (.append hbuild (.initTail poll xtal s)))⟩

/-- Only the write of `READY` makes an `UNINIT` adapter `READY`. -/
theorem State.effect_st_of_uninit {u : UnitId} {a : MicroAct} {s : State} (ha : a ≠ .writeSt .ready) (hs : s.st = .uninit) :
    (s.effect u a).st = .uninit := by
  have hregs : (s.effect u a).st = (a.regs s.adpRegs).st := congrArg AdpRegs.st (State.effect_adpRegs u a s)
  rw [hregs]
  cases a with
  | writeSt st =>
    cases st with
    | uninit => rfl
    | ready => exact absurd rfl ha
  | build k b => cases k <;> cases b <;> exact hs
  | clearFull | advanceTail | countGet | zeroHead | zeroTail | countReceived | countSent | storePoll | storeXtal | writeIrq
  | callChip | checkNotEmpty | readFrame | answerLatched | answerPeek | answerTime | sample | answer | readReceived
  | readSent => exact hs

/-- A write that does not make the adapter `READY` keeps an initialisation going. -/
theorem State.Initialising.microStep {t : State} (ht : t.Initialising) :
    ∃ t', t.microStep .adp = .next t' ∧ t'.Initialising := by
  have idle (t' : State) (h : (t'.micro .adp).todo = []) : t'.Initialising := by
    cases hst : t'.st
    · exact .inl ⟨hst, h ▸ .nil⟩
    · exact .inr ⟨hst, .inr h⟩
  have ended (r : Response) (h : (t.micro .adp).todo = [.answer r]) : ∃ t', t.microStep .adp = .next t' ∧ t'.Initialising :=
    ⟨_, by simp only [State.microStep, h]; rfl, idle _ rfl⟩
  have stays (h : (t.micro .adp).todo = []) : ∃ t', t.microStep .adp = .next t' ∧ t'.Initialising :=
    ⟨t, State.microStep_of_idle h, ht⟩
  have written {a : MicroAct} {rest : List MicroAct} (ha : a.writes = true) (h : (t.micro .adp).todo = a :: rest) :
      t.microStep .adp = .next ((t.effect .adp a).setMicro .adp ⟨(t.micro .adp).latch, rest⟩) := by
    have hrun := State.runAct_of_writes ha .adp (t.micro .adp).latch (t.micro .adp).todo rest t
    rw [show t.setMicro .adp ⟨(t.micro .adp).latch, (t.micro .adp).todo⟩ = t from State.setMicro_self .adp t] at hrun
    rw [State.microStep, h]
    exact hrun
  rcases ht with ⟨hst, pre, last, htodo, hpre, hlast⟩ | ⟨-, htodo | htodo⟩
  · cases pre with
    | cons a pre =>
      obtain ⟨⟨ha, hne⟩, hpre⟩ := List.forall_mem_cons.1 hpre
      refine ⟨_, written ha htodo, .inl ⟨?_, pre, last, by simp, hpre, hlast⟩⟩
      simp [State.effect_st_of_uninit hne hst]
    | nil =>
      rcases hlast with rfl | ⟨r, rfl⟩ | rfl
      · exact stays htodo
      · exact ended r htodo
      · exact ⟨_, written rfl htodo, .inr ⟨rfl, .inl rfl⟩⟩
  · exact ended _ htodo
  · exact stays htodo

theorem State.Initialising.microSteps {t : State} (ht : t.Initialising) (n : Nat) :
    ∃ t', Machine.microSteps .adp n t = .next t' ∧ t'.Initialising := by
  induction n generalizing t with
  | zero => exact ⟨t, rfl, ht⟩
  | succ n ih =>
    obtain ⟨t', h, ht'⟩ := ht.microStep
    rw [Machine.microSteps, h]
    exact ih ht'

/-- An initialisation whose first micro-steps `pre` have left `READY`. -/
theorem exists_initialising {pre rest : List MicroAct} {s : State} (hpre : ∀ a ∈ pre, a.writes = true)
    (hst : (s.effects .adp pre).st = .uninit) (hrest : RegistersLast rest) {k : Nat} (hk : pre.length ≤ k + 1) :
    ∃ t, andThen (s.startMicro .adp (pre ++ rest)) (microSteps .adp k) = .next t ∧ t.Initialising := by
  rw [andThen_startMicro, microSteps_writes hpre hk]
  exact State.Initialising.microSteps (.inl ⟨by simpa using hst, by simpa using hrest⟩) _

theorem State.initialise_of_split {s : State} (ha : s.cfg.atomic = false) (hrx : 1 ≤ s.cfg.rxC) (poll : Bool)
    (xtal : Xtal) (whole : State → Out) (before : List MicroAct) : s.initialise poll xtal whole before =
      (s.useFree (2 * unusableFreeValues)).startMicro .adp (before ++ s.initActs poll xtal) := by
  simp [State.initialise, Nat.one_le_iff_ne_zero.1 hrx, ha]

/-- Settles O55: from the write of `UNINIT` on the operation is an initialisation that has left `READY`, which every micro-step
keeps. -/
theorem edgeBetweenUninitAndReadyIsDiscarded : Obligations.EdgeBetweenUninitAndReadyIsDiscarded := by
  intro s i k hp ha hidle hrx hi
  have claim : ∃ t, andThen (exec i s) (microSteps .adp k) = .next t ∧ t.Initialising := by
    rcases hi with ⟨⟨poll, xtal, rfl⟩, hk⟩ | ⟨rfl, hst⟩
    · obtain ⟨rest, hacts, hrest⟩ := s.initActs_registersLast poll xtal
      rw [exec, execInit_of_adpA hp, State.initialise_of_split ha hrx, hacts]
      exact exists_initialising (pre := [.storePoll poll, .storeXtal xtal, .writeSt .uninit]) (by simp [MicroAct.writes]) rfl
        hrest (by simpa using hk)
    · obtain ⟨rest, hacts, hrest⟩ := s.initActs_registersLast s.cfgPoll s.cfgXtal
      rw [exec, execReset, State.onApplicationPort_of_ready ⟨hp, hst⟩, State.initialise_of_split ha hrx, hacts]
      exact exists_initialising (pre := [.writeSt .uninit]) (by simp [MicroAct.writes]) rfl
        (.append (pre := [.writeIrq false, .callChip .recreate, .writeSt .uninit]) (by simp [MicroAct.writes]) hrest) (by simp)
  obtain ⟨t, ht, ⟨hst, -⟩ | hready⟩ := claim
  · exact ⟨t, ht, .inl ⟨hst, execPstep_of_not_registered (by simp [hst])⟩⟩
  · exact ⟨t, ht, .inr hready⟩

/-! ### A producer step where a unit can receive (R280) -/

/-- A producer step of `u` finds a usable buffer with a valid `head`, and on the adapter `READY`. -/
abbrev State.Receives (u : UnitId) (s : State) : Prop :=
  (s.buf u).usable = true ∧ (s.buf u).head < s.cap u ∧ (u = .adp → s.st = .ready)

/-- A producer step of `u` stores its frame: a `PUT` always, an edge if the adapter is registered (R228). -/
def State.stores (u : UnitId) (s : State) : Bool :=
  match u with
  | .rb => true
  | .adp => s.irqReg

/-- What a producer step leaves of a buffer: after a `PUT` if it stores its frame. -/
def RB.putIf (stores : Bool) (c w : Nat) (f : Frame) (t : Timestamp) (b : RB) : RB :=
  if stores then b.putBody c w f t else b

/-- What a producer step leaves of a state: a buffer, a response and calls to the chip. -/
def State.withProduced (u : UnitId) (b : RB) (r : Option Response) (l : List ChipCall) (s : State) : State :=
  { s.setBuf u b with resp := r, calls := l }

section WithProduced
variable (u : UnitId) (b : RB) (r : Option Response) (l : List ChipCall) (s : State)

@[simp] theorem State.withProduced_cfg : (s.withProduced u b r l).cfg = s.cfg := State.setBuf_cfg ..
@[simp] theorem State.withProduced_port : (s.withProduced u b r l).port = s.port := State.setBuf_port ..
@[simp] theorem State.withProduced_st : (s.withProduced u b r l).st = s.st := State.setBuf_st ..
@[simp] theorem State.withProduced_cfgPoll : (s.withProduced u b r l).cfgPoll = s.cfgPoll := State.setBuf_cfgPoll ..
@[simp] theorem State.withProduced_rxCount : (s.withProduced u b r l).rxCount = s.rxCount := State.setBuf_rxCount ..
@[simp] theorem State.withProduced_buf : (s.withProduced u b r l).buf u = b := by cases u <;> rfl
@[simp] theorem State.withProduced_cap : (s.withProduced u b r l).cap u = s.cap u := by cases u <;> rfl
@[simp] theorem State.withProduced_micro : (s.withProduced u b r l).micro u = s.micro u := by cases u <;> rfl

theorem State.setMicro_withProduced (m : Micro) :
    (s.setMicro u m).withProduced u b r l = (s.withProduced u b r l).setMicro u m := by cases u <;> rfl

end WithProduced

theorem producerStep_of_receives {u : UnitId} {s : State} (h : s.Receives u) (f : Frame) (t : Timestamp) :
    ∃ r l, producerStep u f t s =
      .next (s.withProduced u ((s.buf u).putIf (s.stores u) (s.cap u) s.cfg.cntw f t) r l) := by
  obtain ⟨hu, hh, hst⟩ := h
  cases u with
  | rb =>
    have hput := execPut_of_usable (s := { s with port := .rbP, env := { s.env with now := t } }) rfl hu hh f
    exact ⟨some (.rs .ok), s.calls, by rw [producerStep, hput]; rfl⟩
  | adp =>
    cases hirq : s.irqReg
    · have hedge := execPstep_of_not_registered
        (s := { s with port := .adpE, env := { s.env with now := t, receive := some f } }) (by simp [hirq])
      exact ⟨s.resp, s.calls, by rw [producerStep, hedge, show s.stores .adp = _ from hirq]; rfl⟩
    · have hedge := execPstep_of_delivered
        (s := { s with port := .adpE, env := { s.env with now := t, receive := some f } }) (hst rfl) hirq hu hh rfl
      exact ⟨s.resp, s.calls ++ [.receive], by rw [producerStep, hedge, show s.stores .adp = _ from hirq]; rfl⟩

/-- A unit that serves from a sound buffer can receive. -/
theorem State.serves.receives {u : UnitId} {s : State} (hs : s.serves u) (hb : (s.buf u).Sound (s.cap u)) :
    s.Receives u := by
  obtain ⟨-, hst, hu⟩ := hs
  exact ⟨hu, hb.head_lt, hst⟩

section PutIf
variable {c : Nat} {b : RB} (h : b.Sound c) (p : Bool) (w : Nat) (f : Frame) (t : Timestamp)
include h

theorem RB.Sound.putIf : (b.putIf p c w f t).Sound c := by
  cases p
  · exact h
  · exact h.putBody w f t

theorem RB.Sound.occ_putIf_ne_zero (ho : b.occ c ≠ 0) : (b.putIf p c w f t).occ c ≠ 0 := by
  cases p
  · exact ho
  · rw [show b.putIf true c w f t = b.putBody c w f t from rfl, h.occ_putBody]
    have hc := h.capacity_pos
    omega

/-- On a buffer that is not full a producer step leaves the entry at `tail`. -/
theorem RB.Sound.tailEntry_putIf (ho : b.occ c ≠ 0) (hlt : b.occ c < c) :
    (b.putIf p c w f t).tailEntry c = b.tailEntry c := by
  cases p
  · rfl
  · have hfull : b.full = false := by simpa [h.full_eq_decide] using hlt.ne
    have hne : b.tail ≠ b.head := fun heq => ho ((RB.occ_eq_zero_iff h.tail_lt).2 ⟨heq.symm, hfull⟩)
    simp [RB.putIf, RB.tailEntry, hfull, Memory.read_write_other _ _ hne]

end PutIf

@[simp] theorem RB.putIf_usable (p : Bool) (c w : Nat) (f : Frame) (t : Timestamp) (b : RB) :
    (b.putIf p c w f t).usable = b.usable := by
  cases p <;> simp [RB.putIf]

theorem State.serves.usable {u : UnitId} {s : State} (hs : s.serves u) : (s.buf u).usable = true := hs.2.2

theorem State.serves.withProduced {u : UnitId} {s : State} (hs : s.serves u) {b : RB} (hb : b.usable = true)
    (r : Option Response) (l : List ChipCall) (a : Bool) : ((s.withProduced u b r l).withAtomic a).serves u := by
  obtain ⟨hp, hst, -⟩ := hs
  exact ⟨by simpa using hp, by simpa using hst, by simpa using hb⟩

/-! ### A producer step in a gap (R281, R282) -/

/-- Where a unit serves, a split consumer operation begins with its first micro-step (R280). -/
theorem State.onConsumerPort_of_serves_split {u : UnitId} {s : State} (hs : s.serves u) (ha : s.cfg.atomic = false)
    (fmt : RespFormat) (whole : Nat → Nat → RB → Except Fault (RB × Response)) (acts : List MicroAct) :
    s.onConsumerPort fmt whole acts = s.startMicro u acts := by
  obtain ⟨hp, hst, hu⟩ := hs
  have onBuffer (whole : RB → Except Fault (RB × Response)) : s.onBuffer u fmt whole acts = s.startMicro u acts := by
    rw [State.onBuffer, if_pos hu, State.wholeOrSplit_of_split ha]
  cases u with
  | rb => simp only [State.onConsumerPort, hp, UnitId.consumerPort, onBuffer]
  | adp => simp only [State.onConsumerPort, hp, UnitId.consumerPort, State.whenReady_eq, hst rfl, if_true, onBuffer]

@[simp] theorem State.stores_setMicro (u : UnitId) (m : Micro) (s : State) : (s.setMicro u m).stores u = s.stores u := by
  cases u <;> rfl

@[simp] theorem State.stores_withResp (u : UnitId) (r : Response) (s : State) : (s.withResp r).stores u = s.stores u := by
  cases u <;> rfl

@[simp] theorem State.stores_withAtomic (u : UnitId) (a : Bool) (s : State) : (s.withAtomic a).stores u = s.stores u := by
  cases u <;> rfl

@[simp] theorem State.stores_useFree (u : UnitId) (n : Nat) (s : State) : (s.useFree n).stores u = s.stores u := by
  cases u <;> rfl

/-- Where the micro-steps before a gap leave `y` and the micro-steps `rest`, a producer step in the gap changes `y`, and `rest`
goes on from there. -/
theorem splitByProducer_of_gap {u : UnitId} {i : Instr} {k : Nat} {s x y : State} {acts rest : List MicroAct} {l : Frame}
    (hexec : exec i s = x.startMicro u acts)
    (hgap : microSteps u (k + 1) (x.setMicro u ⟨Frame.zero, acts⟩) = .next (y.setMicro u ⟨l, rest⟩)) (hy : y.Receives u)
    (f : Frame) (t : Timestamp) :
    ∃ r c, splitByProducer u i k f t s = microSteps u enoughMicroSteps
      ((y.withProduced u ((y.buf u).putIf (y.stores u) (y.cap u) y.cfg.cntw f t) r c).setMicro u ⟨l, rest⟩) := by
  have hy' : (y.setMicro u ⟨l, rest⟩).Receives u := by simpa [State.Receives] using hy
  obtain ⟨r, c, hprod⟩ := producerStep_of_receives hy' f t
  refine ⟨r, c, ?_⟩
  rw [splitByProducer, hexec, andThen_startMicro, hgap, andThen_next, hprod, andThen_next, State.setMicro_withProduced]
  simp

/-- `g0`, `p0`, `i0` of a buffer that holds an entry let the operation go on. -/
theorem microSteps_one_of_not_empty {u : UnitId} {s : State} (ho : (s.buf u).occ (s.cap u) ≠ 0) (l : Frame) (r : Response)
    (rest : List MicroAct) :
    microSteps u 1 (s.setMicro u ⟨l, .checkNotEmpty r :: rest⟩) = .next (s.setMicro u ⟨l, rest⟩) := by
  rw [microSteps_checkNotEmpty, if_neg ho, microSteps]

/-! ### Operations with a single read -/

/-- `i` is one read by `a`, whose answer is `read`, whole and split (R281). -/
structure SingleRead (u : UnitId) (i : Instr) (a : MicroAct) (read : State → Response) : Prop where
  sampled : ∀ t, a.sampled u t = some (read t)
  whole : ∀ t : State, t.serves u → (i = .aavail → t.cfgPoll = false) → t.cfg.atomic = true →
    exec i t = .next (t.withResp (read t))
  split : ∀ t : State, t.serves u → (i = .aavail → t.cfgPoll = false) → t.cfg.atomic = false →
    exec i t = t.startMicro u [a]

theorem SingleRead.accessor {u : UnitId} {i : Instr} {q : Query} (hi : ∀ t, exec i t = t.accessor q) :
    SingleRead u i (.sample q) (fun t => q.answer (t.cap u) (t.buf u)) where
  sampled _ := rfl
  whole t hs _ ha := (hi t).trans (State.accessor_of_serves hs ha q)
  split t hs _ ha := (hi t).trans (State.onConsumerPort_of_serves_split hs ha ..)

theorem State.serves.applicationReady {s : State} (hs : s.serves .adp) : s.applicationReady := by
  obtain ⟨hp, hst, -⟩ := hs
  exact ⟨hp, hst rfl⟩

theorem SingleRead.counter {i : Instr} {a : MicroAct} {read : State → Nat}
    (ha : ∀ t, a.sampled .adp t = some (.rv .ok (read t)))
    (hi : ∀ t, exec i t =
      t.onApplicationPort .rv (State.wholeOrSplit .adp (fun t => t.answer (.rv .ok (read t))) [a])) :
    SingleRead .adp i a (fun t => .rv .ok (read t)) where
  sampled := ha
  whole t hs _ hat := (hi t).trans (State.onApplicationPort_of_atomic hs.applicationReady hat ..)
  split t hs _ hat := by
    rw [hi, State.onApplicationPort_of_ready hs.applicationReady, State.wholeOrSplit_of_split hat]

theorem SingleRead.aavail : SingleRead .adp .aavail (.sample .avail) (fun t => .rl .ok (t.rx.available t.cfg.rxC)) where
  sampled _ := rfl
  whole t hs hpoll ha := by
    rw [exec, execAavail, State.onApplicationPort_of_ready hs.applicationReady,
      State.adapterAvailable_of_interrupt (hpoll rfl) ha]
    rfl
  split t hs hpoll ha := by
    rw [exec, execAavail, State.onApplicationPort_of_ready hs.applicationReady, State.adapterAvailable,
      if_neg (by simp [hpoll rfl]), State.wholeOrSplit_of_split ha]
    rfl

/-- Every operation of R282 but `PEEK` and `INSTIME` is one read, answered in a step of its own. -/
theorem exists_singleRead {u : UnitId} {i : Instr}
    (hi : i ∈ singleReadInstrs ∨ (u = .adp ∧ (i = .rxcnt ∨ i = .txcnt ∨ i = .aavail)))
    (hp : i ≠ .peek) (ht : i ≠ .instime) :
    ∃ a read, SingleRead u i a read := by
  rcases hi with hi | ⟨rfl, rfl | rfl | rfl⟩
  · cases i with
    | avail | occ | free | full | empty | hwm | putcnt | getcnt | ovfcnt => exact ⟨_, _, .accessor fun _ => rfl⟩
    | peek => exact absurd rfl hp
    | instime => exact absurd rfl ht
    | put | get | clear | construct | init | aavail | getmsg | send | reset | rxcnt | txcnt | pstep =>
      simp [singleReadInstrs] at hi
  · exact ⟨.readReceived, _, .counter (fun _ => rfl) fun _ => rfl⟩
  · exact ⟨.readSent, _, .counter (fun _ => rfl) fun _ => rfl⟩
  · exact ⟨_, _, .aavail⟩

/-- What a read answers does not depend on `ATOMIC`. -/
theorem SingleRead.read_withAtomic {u : UnitId} {i : Instr} {a : MicroAct} {read : State → Response}
    (h : SingleRead u i a read) (b : Bool) (s : State) : read (s.withAtomic b) = read s := by
  have hsame : a.sampled u (s.withAtomic b) = a.sampled u s := by cases a <;> simp [MicroAct.sampled]
  exact Option.some.inj ((h.sampled _).symm.trans (hsame.trans (h.sampled s)))

section ServingUnit
variable {u : UnitId} {i : Instr} {s : State} (hs : s.serves u) (hb : (s.buf u).Sound (s.cap u))
include hs hb

/-- A producer step after a single read leaves its buffer, and the answer of the operation before it. -/
theorem SingleRead.harmless {a : MicroAct} {read : State → Response} (h : SingleRead u i a read)
    (ha : s.cfg.atomic = false) (hpoll : i = .aavail → s.cfgPoll = false) (f : Frame) (ts : Timestamp) :
    ∃ t po o, splitByProducer u i 0 f ts s = .next t ∧
      andThen (producerStep u f ts s) (fun r => exec i (r.withAtomic true)) = .next po ∧
      exec i (s.withAtomic true) = .next o ∧ t.buf u = po.buf u ∧ t.resp = o.resp := by
  have hgap : microSteps u 1 (s.setMicro u ⟨Frame.zero, [a]⟩) =
      .next (s.setMicro u ⟨Frame.zero, [.answer (read s)]⟩) := by
    rw [microSteps_cons, State.runAct_of_sampled (h.sampled s), andThen_next, microSteps]
  obtain ⟨r, l, hsplit⟩ := splitByProducer_of_gap (h.split s hs hpoll ha) hgap (hs.receives hb) f ts
  obtain ⟨r', l', hprod⟩ := producerStep_of_receives (hs.receives hb) f ts
  have hs' := hs.withProduced (b := (s.buf u).putIf (s.stores u) (s.cap u) s.cfg.cntw f ts) (by simpa using hs.usable) r' l' true
  rw [enoughMicroSteps, microSteps_response rfl] at hsplit
  rw [hprod, andThen_next]
  refine ⟨_, _, _, hsplit, h.whole _ hs' (by simpa using hpoll) rfl,
    h.whole (s.withAtomic true) (by cases u <;> exact hs) hpoll rfl, by simp, by simp [h.read_withAtomic]⟩

/-- A producer step after `p0` or `i0` leaves its buffer, and the operation the answer it gives after that step: `tailAct` answers
`read` of the entry at `tail`, whole and split. -/
theorem harmless_of_tailRead {n : Nat} {r : Response} {tailAct : MicroAct} {read : Entry → Response}
    (ho : (s.buf u).occ (s.cap u) ≠ 0)
    (hsplit : exec i s = (s.useFree n).startMicro u [.checkNotEmpty r, tailAct])
    (hact : ∀ (m : Nat) (l : Frame) (x : State), microSteps u (m + 1) (x.setMicro u ⟨l, [tailAct]⟩) =
      (x.buf u).withTail (x.cap u) (fun e => .next ((x.setMicro u Micro.idle).withResp (read e))))
    (hwhole : ∀ (x : State) (e : Entry), x.serves u → x.cfg.atomic = true → (x.buf u).occ (x.cap u) ≠ 0 →
      (x.buf u).tailEntry (x.cap u) = .ok e → exec i x = .next ((x.useFree n).withResp (read e)))
    (f : Frame) (ts : Timestamp) :
    ∃ t po o, splitByProducer u i 0 f ts s = .next t ∧
      andThen (producerStep u f ts s) (fun r => exec i (r.withAtomic true)) = .next po ∧
      exec i (s.withAtomic true) = .next o ∧ t.buf u = po.buf u ∧ t.resp = po.resp := by
  obtain ⟨e, he⟩ := hb.tailEntry_ok ho
  have hb' := hb.putIf (s.stores u) s.cfg.cntw f ts
  have ho' := hb.occ_putIf_ne_zero (s.stores u) s.cfg.cntw f ts ho
  obtain ⟨e', he'⟩ := hb'.tailEntry_ok ho'
  have hx : (s.useFree n).Receives u := by simpa [State.Receives] using hs.receives hb
  have hgap := microSteps_one_of_not_empty (s := s.useFree n) (by simpa using ho) Frame.zero r [tailAct]
  obtain ⟨q, l, hrun⟩ := splitByProducer_of_gap hsplit hgap hx f ts
  obtain ⟨q', l', hprod⟩ := producerStep_of_receives (hs.receives hb) f ts
  have hs' := hs.withProduced (b := (s.buf u).putIf (s.stores u) (s.cap u) s.cfg.cntw f ts) (by simpa using hs.usable) q' l' true
  rw [enoughMicroSteps, hact, RB.withTail_ok (e := e') (by simpa using he')] at hrun
  rw [hprod, andThen_next]
  exact ⟨_, _, _, hrun, hwhole _ e' hs' rfl (by simpa using ho') (by simpa using he'),
    hwhole (s.withAtomic true) e (by cases u <;> exact hs) rfl (by simpa using ho) (by simpa using he), by simp, rfl⟩

end ServingUnit

/-- Settles O54: the answer of a single read is that of the order which has the operation first; `PEEK` and `INSTIME` read at their
second micro-step and answer as the order which has the producer first. -/
theorem harmlessGapOfSingleReads : Obligations.HarmlessGapOfSingleReads := by
  intro u i s f ts hi ha hidle hs hb hne
  by_cases hread : i = .peek ∨ i = .instime
  · have ho : (s.buf u).occ (s.cap u) ≠ 0 := Nat.one_le_iff_ne_zero.1 (hne hread)
    rcases hread with rfl | rfl
    · have hsplit : exec .peek s = (s.useFree 0).startMicro u peekActs :=
        State.onConsumerPort_of_serves_split hs ha .rf (fun c _ => RB.peek c) peekActs
      obtain ⟨t, po, o, ht, hpo, ho', hbuf, hresp⟩ := harmless_of_tailRead hs hb ho hsplit
        (fun m l x => microSteps_answerPeek u m l [] x) (fun x e hx hax hox hex => execPeek_of_tailEntry hx hax hox hex) f ts
      exact ⟨t, po, o, ht, hpo, ho', hbuf, .inl hresp⟩
    · have hsplit : exec .instime s = (s.useFree 1).startMicro u (instimeActs _) :=
        State.onConsumerPort_of_serves_split (hs.useFree 1) ha .rt (fun c _ => RB.instime c _) (instimeActs _)
      obtain ⟨t, po, o, ht, hpo, ho', hbuf, hresp⟩ := harmless_of_tailRead hs hb ho hsplit
        (fun m l x => microSteps_answerTime u m l [] x) (fun x e hx hax hox hex => execInstime_of_tailEntry hx hax hox hex) f ts
      exact ⟨t, po, o, ht, hpo, ho', hbuf, .inl hresp⟩
  · have hpoll : i = .aavail → s.cfgPoll = false := by
      rintro rfl
      have hadp : u = .adp ∧ s.cfgPoll = false := by simpa [singleReadInstrs] using hi
      exact hadp.2
    obtain ⟨hp, ht⟩ := not_or.1 hread
    obtain ⟨a, read, h⟩ := exists_singleRead (hi.imp_right (And.imp_right (Or.imp_right (Or.imp_right And.left)))) hp ht
    obtain ⟨t, po, o, ht, hpo, ho, hbuf, hresp⟩ := h.harmless hs hb ha hpoll f ts
    exact ⟨t, po, o, ht, hpo, ho, hbuf, .inr hresp⟩

/-! ### A producer step in a gap of `GET`, on the buffer (R282) -/

/-- What a `GET` makes of a buffer when `d` happens to it in the gap after its first `k + 1` micro-steps. -/
def RB.takenAround (c w : Nat) (d : RB → RB) (k : Nat) (b : RB) : RB :=
  match k with
  | 0 | 1 => (d b).taken c w
  | 2 => ((d b.clearFull).advanceTail c).countGet w
  | 3 => (d (b.clearFull.advanceTail c)).countGet w
  | _ => d (b.taken c w)

/-- Counting a get and putting an entry do not disturb one another. -/
theorem RB.putBody_countGet (c w v : Nat) (f : Frame) (t : Timestamp) (b : RB) :
    (b.countGet v).putBody c w f t = (b.putBody c w f t).countGet v := by
  have hevict (d : RB) : (d.countGet v).evictIfFull c w = (d.evictIfFull c w).countGet v := by
    rw [RB.evictIfFull, RB.evictIfFull, RB.countGet_full]
    split <;> rfl
  have hraise (d : RB) : (d.countGet v).raiseHwm c = (d.raiseHwm c).countGet v := by
    rw [RB.raiseHwm, RB.raiseHwm, RB.countGet_hwm, RB.occ_countGet]
    split <;> rfl
  calc (b.countGet v).putBody c w f t
      _ = (((((b.store f t).countGet v).evictIfFull c w).advanceHead c).recomputeFull.raiseHwm c).countPut w := rfl
      _ = (((((b.store f t).evictIfFull c w).advanceHead c).recomputeFull.countGet v).raiseHwm c).countPut w := by
        rw [hevict]
        rfl
      _ = (b.putBody c w f t).countGet v := by rw [hraise]; rfl

theorem RB.putIf_countGet (p : Bool) (c w v : Nat) (f : Frame) (t : Timestamp) (b : RB) :
    (b.countGet v).putIf p c w f t = (b.putIf p c w f t).countGet v := by
  cases p
  · rfl
  · exact RB.putBody_countGet ..

theorem RB.clearFull_of_not_full {d : RB} (hd : d.full = false) : d.clearFull = d := by rw [RB.clearFull, ← hd]

/-- With one slot `tail` stays where it is. -/
theorem RB.advanceTail_one {d : RB} (hd : d.tail < 1) : d.advanceTail 1 = d := by
  have hinc : inc 1 d.tail = d.tail := by rw [Nat.lt_one_iff.1 hd]; rfl
  rw [RB.advanceTail, hinc]

section Harmless
variable {c : Nat} {b : RB} (h : b.Sound c) (ho : b.occ c ≠ 0) (p : Bool) (w : Nat) (f : Frame) (t : Timestamp)
include h

/-- In the gap `g2`-`g3` a producer step that leaves a slot free is as one before the `GET`. -/
theorem RB.Sound.takenAround_two (hlt : b.occ c + 2 ≤ c) :
    b.takenAround c w (RB.putIf p c w f t) 2 = (b.putIf p c w f t).taken c w := by
  have hfull : b.full = false := by simpa [h.full_eq_decide] using (show b.occ c ≠ c by omega)
  have hb' := h.putIf p w f t
  have hfull' : (b.putIf p c w f t).full = false := by
    rw [hb'.full_eq_decide, decide_eq_false_iff_not]
    cases p
    · exact (show b.occ c ≠ c by omega)
    · rw [show b.putIf true c w f t = b.putBody c w f t from rfl, h.occ_putBody]
      omega
  rw [RB.takenAround, RB.taken, RB.clearFull_of_not_full hfull, RB.clearFull_of_not_full hfull']

/-- In the gap `g2`-`g3` of a buffer with one slot a producer step is as one after the `GET`. -/
theorem RB.Sound.takenAround_two_of_one (hc : c = 1) :
    b.takenAround c w (RB.putIf p c w f t) 2 = (b.taken c w).putIf p c w f t := by
  subst hc
  have htail : b.tail < 1 := h.tail_lt
  have htail' : (b.clearFull.putIf p 1 w f t).tail < 1 := by cases p <;> simpa [RB.putIf] using htail
  rw [RB.takenAround, RB.advanceTail_one htail', RB.taken, RB.advanceTail_one (d := b.clearFull) htail, RB.putIf_countGet]

include ho in
/-- In a harmless gap a producer step leaves a `GET`'s buffer as one before the `GET` does, which then answers the same, or as one
after it (R282). -/
theorem RB.Sound.takenAround_harmless {k : Nat} (hk : k ≠ 0) (hgap : HarmlessGap c (b.occ c) k) :
    (b.takenAround c w (RB.putIf p c w f t) k = (b.putIf p c w f t).taken c w ∧
      (b.putIf p c w f t).tailEntry c = b.tailEntry c) ∨
    b.takenAround c w (RB.putIf p c w f t) k = (b.taken c w).putIf p c w f t := by
  obtain ⟨hone, htwo⟩ := hgap
  match k with
  | 1 => exact .inl ⟨rfl, h.tailEntry_putIf p w f t ho (hone rfl)⟩
  | 2 =>
    rcases htwo rfl with hlt | hc
    · exact .inl ⟨h.takenAround_two p w f t hlt, h.tailEntry_putIf p w f t ho (by omega)⟩
    · exact .inr (h.takenAround_two_of_one p w f t hc)
  | 3 => exact .inr (RB.putIf_countGet ..).symm
  | k + 4 => exact .inr rfl

end Harmless

/-! ### A producer step in a gap of `GET` or `GETMSG` (R281, R282) -/

/-- `i` takes an entry from the buffer of `u` by the writes `writes` (R136, R190, R281). -/
inductive Takes : UnitId → Instr → List MicroAct → Prop
  | get (u : UnitId) : Takes u .get getWrites
  | getmsg : Takes .adp .getmsg getmsgWrites

/-- What micro-steps make of the buffer of their unit. -/
def effectsOn (u : UnitId) (c w : Nat) (acts : List MicroAct) (b : RB) : RB :=
  acts.foldl (fun d a => a.onRing u (ringOf u) c w d) b

/-- What micro-steps make of `rx_count`. -/
def receivedBy (w : Nat) (acts : List MicroAct) (n : Nat) : Nat :=
  acts.foldl (fun m a => if a = .countReceived then wrap w (m + 1) else m) n

section Effects
variable {u : UnitId} (acts : List MicroAct) (s : State)

@[simp] theorem State.effects_cfg : (s.effects u acts).cfg = s.cfg := by
  induction acts generalizing s with
  | nil => rfl
  | cons a rest ih => exact (ih _).trans (State.effect_cfg u a s)

@[simp] theorem State.effects_cap : (s.effects u acts).cap u = s.cap u := State.cap_of_cfg (s.effects_cfg acts) u

theorem State.effects_buf : (s.effects u acts).buf u = effectsOn u (s.cap u) s.cfg.cntw acts (s.buf u) := by
  induction acts generalizing s with
  | nil => rfl
  | cons a rest ih =>
    have hbuf : (s.effect u a).buf u = a.onRing u (ringOf u) (s.cap u) s.cfg.cntw (s.buf u) := by
      simpa using s.effect_ring u (ringOf u) a
    refine (ih (s.effect u a)).trans ?_
    rw [hbuf, State.effect_cfg, State.cap_of_cfg (s.effect_cfg u a)]
    rfl

theorem State.effects_rxCount : (s.effects u acts).rxCount = receivedBy s.cfg.cntw acts s.rxCount := by
  induction acts generalizing s with
  | nil => rfl
  | cons a rest ih =>
    have hcount : (s.effect u a).rxCount = if a = .countReceived then wrap s.cfg.cntw (s.rxCount + 1) else s.rxCount := by
      cases a <;> simp [State.effect]
    refine (ih (s.effect u a)).trans ?_
    rw [hcount, State.effect_cfg]
    rfl

variable {acts s} (hacts : ∀ a ∈ acts, a ∈ getmsgWrites)
include hacts

/-- The writes of `GET` and `GETMSG` leave a unit able to receive. -/
theorem State.Receives.effects (h : s.Receives u) : (s.effects u acts).Receives u := by
  induction acts generalizing s with
  | nil => exact h
  | cons a rest ih =>
    obtain ⟨ha, hrest⟩ := List.forall_mem_cons.1 hacts
    refine ih hrest ?_
    fin_cases ha <;> cases u <;> exact h

theorem State.stores_effects : (s.effects u acts).stores u = s.stores u := by
  induction acts generalizing s with
  | nil => rfl
  | cons a rest ih =>
    obtain ⟨ha, hrest⟩ := List.forall_mem_cons.1 hacts
    refine (ih hrest).trans ?_
    fin_cases ha <;> cases u <;> rfl

end Effects

section Takes
variable {u : UnitId} {i : Instr} {writes : List MicroAct} (h : Takes u i writes)
include h

theorem Takes.mem : ∀ a ∈ writes, a ∈ getmsgWrites := by
  cases h with
  | get => decide
  | getmsg => exact fun _ => id

theorem Takes.only_writes : ∀ a ∈ writes, a.writes = true := fun a ha => by
  have hmem := h.mem a ha
  fin_cases hmem <;> rfl

theorem Takes.length_le : writes.length ≤ 4 := by cases h <;> decide

/-- Split, the operation begins with `g0` (R281). -/
theorem Takes.split {s : State} (hs : s.serves u) (ha : s.cfg.atomic = false) :
    exec i s = s.startMicro u (takeActs writes) := by
  cases h with
  | get => exact State.onConsumerPort_of_serves_split hs ha .rf RB.get getActs
  | getmsg =>
    have hu : s.rx.usable = true := hs.usable
    rw [exec, execGetmsg, State.onApplicationPort_of_ready hs.applicationReady, State.takeMessage, if_pos hu,
      State.wholeOrSplit_of_split ha]
    rfl

/-- Whole, the operation of a buffer that holds an entry does its writes and answers the frame at `tail`. -/
theorem Takes.whole {s : State} (hs : s.serves u) (ha : s.cfg.atomic = true) (ho : (s.buf u).occ (s.cap u) ≠ 0) {e : Entry}
    (he : (s.buf u).tailEntry (s.cap u) = .ok e) :
    exec i s = .next ((s.effects u writes).withResp (.rf .ok true e.frame)) := by
  cases h with
  | get =>
    rw [State.effects_getWrites]
    exact execGet_of_tailEntry hs ha ho he
  | getmsg =>
    rw [State.effects_getmsgWrites]
    exact execGetmsg_of_tailEntry hs.applicationReady ha hs.usable ho he

theorem Takes.effectsOn_eq (c w : Nat) (b : RB) : effectsOn u c w writes b = b.taken c w := by
  cases h with
  | get => cases u <;> rfl
  | getmsg => rfl

/-- The writes before a gap, something else, and the writes after it, on the buffer. -/
theorem Takes.effectsOn_around {k : Nat} (hk : k + 1 ≤ writes.length + 1) (c w : Nat) (d : RB → RB) (b : RB) :
    effectsOn u c w (writes.drop k) (d (effectsOn u c w (writes.take k) b)) = b.takenAround c w d (k + 1) := by
  have hk' : k ≤ writes.length := Nat.le_of_succ_le_succ hk
  cases h with
  | get =>
    simp only [getWrites, List.length_cons, List.length_nil] at hk'
    interval_cases k <;> cases u <;> rfl
  | getmsg =>
    simp only [getmsgWrites, List.length_cons, List.length_nil] at hk'
    interval_cases k <;> rfl

end Takes
section Gap
variable {u : UnitId} {i : Instr} {writes : List MicroAct} (h : Takes u i writes)
include h

/-- The writes left to run and the answer of the latched frame. -/
theorem Takes.last_writes {acts : List MicroAct} (hsub : acts.Sublist writes) {n : Nat} (hn : 4 < n) (l : Frame) (y : State) :
    microSteps u n (y.setMicro u ⟨l, acts ++ [.answerLatched]⟩) =
      .next (((y.effects u acts).setMicro u Micro.idle).withResp (.rf .ok true l)) := by
  have hlen := hsub.length_le.trans h.length_le
  exact microSteps_writes_response (fun a hin => h.only_writes a (hsub.subset hin)) rfl (by omega) u y

variable {s : State} (hs : s.serves u) (ha : s.cfg.atomic = false) (hb : (s.buf u).Sound (s.cap u))
  (ho : (s.buf u).occ (s.cap u) ≠ 0) (f : Frame) (ts : Timestamp)
include hs ha hb ho

/-- A producer step in the gap `g0`-`g1` comes before the read at `tail`. -/
theorem Takes.split_first_gap {e : Entry}
    (he : ((s.buf u).putIf (s.stores u) (s.cap u) s.cfg.cntw f ts).tailEntry (s.cap u) = .ok e) :
    ∃ t, splitByProducer u i 0 f ts s = .next t ∧ t.resp = some (.rf .ok true e.frame) ∧
      t.buf u = effectsOn u (s.cap u) s.cfg.cntw writes ((s.buf u).putIf (s.stores u) (s.cap u) s.cfg.cntw f ts) ∧
      t.rxCount = receivedBy s.cfg.cntw writes s.rxCount := by
  have hgap := microSteps_one_of_not_empty ho Frame.zero (RespFormat.failed .rf .empty)
    (.readFrame :: (writes ++ [.answerLatched]))
  obtain ⟨r, l, hrun⟩ := splitByProducer_of_gap (h.split hs ha) hgap (hs.receives hb) f ts
  rw [enoughMicroSteps, microSteps_readFrame, RB.withTail_ok (e := e) (by simpa using he),
    h.last_writes (List.Sublist.refl _) (by decide)] at hrun
  exact ⟨_, hrun, rfl, by simp [State.effects_buf], by simp [State.effects_rxCount]⟩

/-- A producer step in a later gap comes between two writes, after the read at `tail`. -/
theorem Takes.split_later_gap {k : Nat} (hk : k ≤ writes.length) {e : Entry} (he : (s.buf u).tailEntry (s.cap u) = .ok e) :
    ∃ t, splitByProducer u i (k + 1) f ts s = .next t ∧ t.resp = some (.rf .ok true e.frame) ∧
      t.buf u = effectsOn u (s.cap u) s.cfg.cntw (writes.drop k)
        ((effectsOn u (s.cap u) s.cfg.cntw (writes.take k) (s.buf u)).putIf (s.stores u) (s.cap u) s.cfg.cntw f ts) ∧
      t.rxCount = receivedBy s.cfg.cntw writes s.rxCount := by
  have htake : ∀ a ∈ writes.take k, a ∈ getmsgWrites := fun a hin => h.mem a (List.mem_of_mem_take hin)
  have hgap : microSteps u (k + 2) (s.setMicro u ⟨Frame.zero, takeActs writes⟩) =
      .next ((s.effects u (writes.take k)).setMicro u ⟨e.frame, writes.drop k ++ [.answerLatched]⟩) := by
    have hpre := microSteps_writes (fun a hin => h.only_writes a (List.mem_of_mem_take hin)) (List.length_take_le k writes) u
      e.frame (writes.drop k ++ [.answerLatched]) s
    rw [← List.append_assoc, List.take_append_drop, List.length_take_of_le hk, Nat.sub_self, microSteps] at hpre
    rw [takeActs, microSteps_checkNotEmpty, if_neg ho, microSteps_readFrame, RB.withTail_ok he, hpre]
  obtain ⟨r, l, hrun⟩ := splitByProducer_of_gap (h.split hs ha) hgap ((hs.receives hb).effects htake) f ts
  rw [h.last_writes (List.drop_sublist ..) (by decide)] at hrun
  refine ⟨_, hrun, rfl, ?_, ?_⟩
  · simp [State.effects_buf, State.stores_effects htake]
  · have hcount : receivedBy s.cfg.cntw writes s.rxCount =
        receivedBy s.cfg.cntw (writes.drop k) (receivedBy s.cfg.cntw (writes.take k) s.rxCount) := by
      rw [receivedBy, receivedBy, receivedBy, ← List.foldl_append, List.take_append_drop]
    simp [State.effects_rxCount, hcount]

omit ha in
/-- The two atomic orders of the operation and the producer step. -/
theorem Takes.orders {e e' : Entry} (he : (s.buf u).tailEntry (s.cap u) = .ok e)
    (he' : ((s.buf u).putIf (s.stores u) (s.cap u) s.cfg.cntw f ts).tailEntry (s.cap u) = .ok e') :
    ∃ po o op, andThen (producerStep u f ts s) (fun r => exec i (r.withAtomic true)) = .next po ∧
      exec i (s.withAtomic true) = .next o ∧ producerStep u f ts o = .next op ∧
      po.buf u = ((s.buf u).putIf (s.stores u) (s.cap u) s.cfg.cntw f ts).taken (s.cap u) s.cfg.cntw ∧
      po.resp = some (.rf .ok true e'.frame) ∧
      op.buf u = ((s.buf u).taken (s.cap u) s.cfg.cntw).putIf (s.stores u) (s.cap u) s.cfg.cntw f ts ∧
      o.resp = some (.rf .ok true e.frame) ∧ o.rxCount = receivedBy s.cfg.cntw writes s.rxCount := by
  obtain ⟨r, l, hprod⟩ := producerStep_of_receives (hs.receives hb) f ts
  have ho' := hb.occ_putIf_ne_zero (s.stores u) s.cfg.cntw f ts ho
  have hpo := h.whole (e := e') (hs.withProduced (b := (s.buf u).putIf (s.stores u) (s.cap u) s.cfg.cntw f ts)
    (by simpa using hs.usable) r l true) rfl (by simpa using ho') (by simpa using he')
  have hwhole := h.whole (s := s.withAtomic true) (e := e) (by cases u <;> exact hs) rfl (by simpa using ho) (by simpa using he)
  have hrec : (s.withAtomic true).Receives u := by simpa [State.Receives] using hs.receives hb
  have hrec' : (((s.withAtomic true).effects u writes).withResp (.rf .ok true e.frame)).Receives u := by
    simpa [State.Receives] using hrec.effects h.mem
  obtain ⟨r', l', hop⟩ := producerStep_of_receives hrec' f ts
  rw [hprod, andThen_next]
  exact ⟨_, _, _, hpo, hwhole, hop, by simp [State.effects_buf, h.effectsOn_eq], rfl,
    by simp [State.effects_buf, h.effectsOn_eq, State.stores_effects h.mem], rfl, by simp [State.effects_rxCount]⟩

end Gap

/-- Settles O53: before the first write a producer step is as one before the operation; in a later gap the buffer decides which
of the two orders it is as. -/
theorem harmlessGapsOfGet : Obligations.HarmlessGapsOfGet := by
  intro u i s f ts k hi ha hidle hs hb hone hgap
  have ho : (s.buf u).occ (s.cap u) ≠ 0 := Nat.one_le_iff_ne_zero.1 hone
  obtain ⟨writes, h, hk⟩ : ∃ writes, Takes u i writes ∧ k ≤ writes.length + 1 := by
    rcases hi with ⟨rfl, hk⟩ | ⟨rfl, rfl, hk⟩
    · exact ⟨_, .get u, hk⟩
    · exact ⟨_, .getmsg, hk⟩
  obtain ⟨e, he⟩ := hb.tailEntry_ok ho
  obtain ⟨e', he'⟩ := (hb.putIf (s.stores u) s.cfg.cntw f ts).tailEntry_ok
    (hb.occ_putIf_ne_zero (s.stores u) s.cfg.cntw f ts ho)
  obtain ⟨po, o, op, hpo, hwhole, hop, hpobuf, hporesp, hopbuf, horesp, hocount⟩ := h.orders hs hb ho f ts he he'
  cases k with
  | zero =>
    obtain ⟨t, ht, hresp, hbuf, hcount⟩ := h.split_first_gap hs ha hb ho f ts he'
    exact ⟨t, po, o, op, ht, hpo, hwhole, hop, .inl ⟨by rw [hbuf, hpobuf, h.effectsOn_eq], hresp.trans hporesp.symm⟩,
      hcount.trans hocount.symm⟩
  | succ k =>
    obtain ⟨t, ht, hresp, hbuf, hcount⟩ := h.split_later_gap hs ha hb ho f ts (Nat.le_of_succ_le_succ hk) he
    refine ⟨t, po, o, op, ht, hpo, hwhole, hop, ?_, hcount.trans hocount.symm⟩
    rw [h.effectsOn_around hk (d := RB.putIf (s.stores u) (s.cap u) s.cfg.cntw f ts)] at hbuf
    rcases hb.takenAround_harmless ho (s.stores u) s.cfg.cntw f ts k.succ_ne_zero hgap with ⟨heq, htail⟩ | heq
    · obtain rfl : e' = e := Except.ok.inj (he'.symm.trans (htail.trans he))
      exact .inl ⟨hbuf.trans (heq.trans hpobuf.symm), hresp.trans hporesp.symm⟩
    · exact .inr ⟨hbuf.trans (heq.trans hopbuf.symm), hresp.trans horesp.symm⟩

/-! ### Waiting for the operation in progress (R280) -/

theorem State.waitsFor_of_busy {u : UnitId} {s : State} (h : (s.micro u).todo ≠ []) :
    s.waitsFor u.consumerPort = some u := by
  have hbusy : s.busy u = true := by simpa [State.busy] using h
  cases u <;> simp [State.waitsFor, consumerUnit, UnitId.consumerPort, hbusy]

/-- A request that waits stays presented while the operation it waits for takes one micro-step. -/
theorem step_of_waiting {s : State} {r : Request} {rest : List Input} {u : UnitId} (hin : s.inputs = .request r :: rest)
    (hw : s.waitsFor r.port = some u) : step s = s.clearOutputs.microStep u := by
  have hw' : s.clearOutputs.waitsFor r.port = some u := hw
  have hsame : s.clearOutputs.withInputs (.request r :: rest) = s.clearOutputs := by rw [← hin]; rfl
  simp only [step, State.clearOutputs_inputs, hin, nextInput, hw', hsame]

/-- Settles O12: a command of a busy unit waits, a producer request waits for nothing. -/
theorem commandWaitsForOperationInProgress : Obligations.CommandWaitsForOperationInProgress := by
  refine ⟨fun s u w e rest hbusy hin => step_of_waiting hin (State.waitsFor_of_busy hbusy), fun s u w e rest i hin hd => ?_⟩
  have hwait : s.waitsFor u.producerPort = none := State.waitsFor_of_not_consumer (by cases u <;> rfl) s
  exact stepRunsTheDecodedInstruction s ⟨u.producerPort, w, e⟩ rest i hin hwait hd

/-! ### Power-on (R50, R260) -/

/-- Settles O47: the reset state has the spec's values, and slots that hold nothing. -/
theorem powerOnState : Obligations.PowerOnState :=
  ⟨rfl, rfl, rfl, rfl, rfl, rfl, rfl, fun a => ⟨Memory.read_empty a, Memory.read_empty a, Memory.read_empty a⟩⟩

/-! ### The runs of the hazards (R283 to R285) -/

/-- Settles O56, by the run of R283 and the runs of the two atomic orders. -/
theorem hazardOfPutBetweenReadAndClear : Obligations.HazardOfPutBetweenReadAndClear := by
  refine ⟨?_, ?_, ?_, ?_⟩ <;> decide

/-- Settles O57, by the runs of R284. -/
theorem hazardOfPutBetweenClearAndAdvance : Obligations.HazardOfPutBetweenClearAndAdvance := by
  refine ⟨?_, ?_, ?_, ?_⟩ <;> decide

/-- Settles O58, by the runs of R285. -/
theorem hazardOfPutInsideClear : Obligations.HazardOfPutInsideClear := by
  refine ⟨?_, ?_⟩ <;> decide

end Sys2Proof.Machine
